-- ==== Sys2Proof/Word.lean ====
section
/-! DEFINITION. The words of the link core: bytes, 16-bit payloads, 32-bit frame words, tag sets
(spec 00_scope.md R10, 30_encoding.md R91, 10_state.md R24). -/

namespace Sys2Proof

/-- `u8` (R10). -/
abbrev Byte := BitVec 8

/-- `u16`: the payload of a frame and every Device Status register (R10, R24). -/
abbrev U16 := BitVec 16

/-- The 32-bit frame word of R91. -/
abbrev FrameWord := BitVec 32

/-- A set of result tags: bit `t` stands for tag number `t` (R24). -/
abbrev TagSet := BitVec 13

end Sys2Proof
end

