-- ==== Sys2Proof/Config.lean ====
section
/-! DEFINITION. The implementation parameters of spec 00_scope.md R8: the constants the source fixes, the record of
the parameters a model takes as arguments, the constraints on them, and the free values. -/

namespace Sys2Proof.Config

/-- `FRAME_LEN`, fixed (R8). -/
def frameLen : Nat := 4

/-- `CRC8_INIT`, fixed (R8). -/
def crc8Init : Byte := 0xFF

/-- `SCHED_PERIOD`, fixed (R8). -/
def schedPeriod : Nat := 23

/-- `INIT_SUSTAIN`, fixed (R8). -/
def initSustain : Nat := 20

/-- FREE VALUE. The byte a packing function yields for an integer that fits no byte. R94 and R232 to R238 state no
byte there; it arises only from a configuration register outside its range of R27, with the guard set, which no run
reaches. DESIGN CHOICE, log 24. -/
opaque freeByte : Int → Byte

/-- FREE VALUE. The 16-bit payload a packing function yields for an integer that fits no `u16`; as `freeByte`.
DESIGN CHOICE, log 24. -/
opaque freeU16 : Int → U16

end Sys2Proof.Config

namespace Sys2Proof

/-- The parameters a model takes as configuration (R8): constants of a run, which no step changes. -/
structure Params where
  /-- `CRC8_TABLE`, OPEN (R9, R66): entry `i` at index `i`. -/
  crcTable : Vector Byte 256
  /-- `RX_CAPACITY`, OPEN, at least 5 (R176). -/
  rxCapacity : Nat
  /-- `INIT_NO_RESPONSE_BUDGET`, OPEN. -/
  initNoResponseBudget : Nat
  /-- `INIT_SYNC_BUDGET`, OPEN. -/
  initSyncBudget : Nat
  /-- `OVERCURRENT_MASK`, OPEN, one bit (R26). -/
  overcurrentMask : U16
  /-- `INVALID_PACKET_MASK`, OPEN, one bit (R26). -/
  invalidPacketMask : U16
  /-- `RESET_PAYLOAD` (R292). -/
  resetPayload : U16
  /-- `DISENGAGE_PAYLOAD` (R293). -/
  disengagePayload : U16
  /-- `REPROGRAM_PAYLOAD` (R294). -/
  reprogramPayload : U16
deriving DecidableEq, Repr

/-- Exactly one bit of the mask is set. -/
def oneBit (m : U16) : Bool := m != 0 && m &&& (m - 1) == 0

/-- The constraints of R8 on a parameter set; R8's table and I15 of 93_implementation_defined.md refuse any other. -/
def Params.wf (p : Params) : Bool :=
  decide (5 ≤ p.rxCapacity) && oneBit p.overcurrentMask && oneBit p.invalidPacketMask
    && p.overcurrentMask != p.invalidPacketMask
    && decide (1 ≤ p.initNoResponseBudget) && decide (p.initNoResponseBudget < p.initSyncBudget)
    && decide (Config.initSustain ≤ p.initSyncBudget)

end Sys2Proof
end

