-- ==== Sys2Proof/Machine/Operands.lean ====
section
/-! DEFINITION. Operand forms: bits and bytes (R10), signedness (R11), exact numbers and rounding (R12), and the integer
fields a packing function writes (R93, R94). -/

namespace Sys2Proof.Machine

/-- `lo8(p) = p[7:0]` (R10). -/
def lo8 (p : U16) : Byte := p.extractLsb' 0 8

/-- `hi8(p) = p[15:8]` (R10). -/
def hi8 (p : U16) : Byte := p.extractLsb' 8 8

/-- `cat16(h, l) = h * 256 + l` (R10). -/
def cat16 (h l : Byte) : U16 := h ++ l

/-- `zext(v)` (R11). -/
def zext {w : Nat} (v : BitVec w) : Int := v.toNat

/-- `sext_8(b)` (R11). -/
def sext8 (b : Byte) : Int := if b.toNat < 128 then b.toNat else b.toNat - 256

/-- `sext_16(p)` (R11). -/
def sext16 (p : U16) : Int := if p.toNat < 32768 then p.toNat else p.toNat - 65536

/-- `tc8(n)` for `-128 <= n <= 127` (R11); no value is stated for another `n` (log 24). -/
def tc8 (n : Int) : Byte :=
  if -128 ≤ n ∧ n ≤ 127 then BitVec.ofInt 8 n else Config.freeByte n

/-- An unsigned byte field of forms `BB` and `BS` (R93); no value is stated for an integer outside 0 to 255 (log 24). -/
def byteField (n : Int) : Byte :=
  if 0 ≤ n ∧ n ≤ 255 then BitVec.ofInt 8 n else Config.freeByte n

/-- The unsigned 16-bit field of form `U16` (R93); no value is stated for an integer outside 0 to 65535 (log 24). -/
def u16Field (n : Int) : U16 :=
  if 0 ≤ n ∧ n ≤ 65535 then BitVec.ofInt 16 n else Config.freeU16 n

/-- `clamp(x, lo, hi)` (R12). -/
def clamp (x lo hi : ℚ) : ℚ := if x < lo then lo else if hi < x then hi else x

/-- `trunc(q)`: the integer part of `q` toward zero (R12). -/
def trunc (q : ℚ) : Int := q.num.tdiv q.den

/-- `round_haz(q)`: the nearest integer, a tie going away from zero (R12). -/
def roundHaz (q : ℚ) : Int := if 0 ≤ q then trunc (q + 1 / 2) else -trunc (-q + 1 / 2)

/-- `RoundStated`, used where the source says "rounded" (R12, D9; log 7). -/
def roundStated (q : ℚ) : Int := roundHaz q

/-- `RoundSilent`, used where the source names no rounding (R12, D9; log 7). -/
def roundSilent (q : ℚ) : Int := trunc q

end Sys2Proof.Machine
end

