-- ==== Sys2Proof/Machine/FrameCodec.lean ====
section
/-! DEFINITION. The Frame Codec (spec 41_frame_codec.md): four bytes code, payload low, payload high, CRC. -/

namespace Sys2Proof.Machine

/-- Four bytes in stream order (R90). -/
structure Quad where
  b0 : Byte
  b1 : Byte
  b2 : Byte
  b3 : Byte
deriving DecidableEq, Repr

/-- The bytes in stream order, first byte first. -/
def Quad.bytes (q : Quad) : List Byte := [q.b0, q.b1, q.b2, q.b3]

/-- A decoded frame: the CRC byte is implied and not carried (R151). -/
structure Frame where
  code : Byte
  payload : U16
deriving DecidableEq, Repr

/-- The frame word of R91: byte `k` of the stream at bits `8k+7 .. 8k`. -/
def frameWord (q : Quad) : FrameWord := q.b3 ++ (q.b2 ++ (q.b1 ++ q.b0))

/-- The four bytes of a frame word (R91). -/
def quadOfWord (w : FrameWord) : Quad :=
  ⟨w.extractLsb' 0 8, w.extractLsb' 8 8, w.extractLsb' 16 8, w.extractLsb' 24 8⟩

/-- Four bytes are a valid frame exactly when the fourth is the CRC of the first three (R92). -/
def validFrame (tbl : Vector Byte 256) (q : Quad) : Bool := q.b3 == crc8Block tbl [q.b0, q.b1, q.b2]

/-- `FRAME.ENCODE(code, value)` (R150). -/
def frameEncode (tbl : Vector Byte 256) (code : Byte) (value : U16) : Quad :=
  ⟨code, lo8 value, hi8 value, crc8Block tbl [code, lo8 value, hi8 value]⟩

/-- `FRAME.DECODE(bs)` (R151). -/
def frameDecode (tbl : Vector Byte 256) (q : Quad) : Option Frame :=
  if validFrame tbl q then some ⟨q.b0, cat16 q.b2 q.b1⟩ else none

end Sys2Proof.Machine
end

