-- ==== Sys2Proof/Syntax.lean ====
section
/-! DEFINITION. The operations of the link core as terms: one constructor of `Instr` per row of spec/opcode_table.json
(11 outbound frames, 14 inbound frames, 9 host operations), and the encodings they are read from. -/

namespace Sys2Proof

/-- The thirteen result tags, one per Device Status register (R24). -/
inductive Tag where
  | current | voltage | controllerTemp | motorTemp | rudder | flags
  | maxCurrent | maxControllerTemp | maxMotorTemp | rudderRange | maxSlew
  | currentCalibration | voltageCalibration
deriving DecidableEq, Repr

/-- The eleven outbound frames (R96). -/
inductive TxKind where
  | command | reset | maxCurrent | maxControllerTemp | maxMotorTemp | rudderRange
  | reprogram | disengage | maxSlew | currentCalibration | voltageCalibration
deriving DecidableEq, Repr

/-- Eleven rationals, in the order of R27: the arguments of `SET_CONFIGURATION` (R275) and the values of the
Configuration Set registers. -/
structure ConfigValues where
  maxCurrent : ℚ
  maxControllerTemp : ℚ
  maxMotorTemp : ℚ
  rudderMin : ℚ
  rudderMax : ℚ
  slewFast : ℚ
  slewSlow : ℚ
  currentFactor : ℚ
  currentOffset : ℚ
  voltageFactor : ℚ
  voltageOffset : ℚ
deriving DecidableEq, Repr

/-- The operations (R3). A frame carries its payload and not its CRC byte, which is implied (R151). -/
inductive Instr where
  -- outbound wire frames (R96)
  | txCommand (payload : U16)
  | txReset (payload : U16)
  | txMaxCurrent (payload : U16)
  | txMaxControllerTemp (payload : U16)
  | txMaxMotorTemp (payload : U16)
  | txRudderRange (payload : U16)
  | txReprogram (payload : U16)
  | txDisengage (payload : U16)
  | txMaxSlew (payload : U16)
  | txCurrentCalibration (payload : U16)
  | txVoltageCalibration (payload : U16)
  -- inbound wire frames (R97, R98)
  | rxCurrent (payload : U16)
  | rxVoltage (payload : U16)
  | rxControllerTemp (payload : U16)
  | rxMotorTemp (payload : U16)
  | rxRudder (payload : U16)
  | rxFlags (payload : U16)
  | rxMaxCurrent (payload : U16)
  | rxMaxControllerTemp (payload : U16)
  | rxMaxMotorTemp (payload : U16)
  | rxRudderRange (payload : U16)
  | rxMaxSlew (payload : U16)
  | rxCurrentCalibration (payload : U16)
  | rxVoltageCalibration (payload : U16)
  | rxUnrecognized (code : Byte) (payload : U16)
  -- host operations (R118)
  | opInitialize
  | opInitStep
  | opCommand (value : ℚ)
  | opPoll
  | opSetConfiguration (args : ConfigValues)
  | opFault
  | opReset
  | opDisengage
  | opReprogram
deriving DecidableEq, Repr

/-- The direction of a wire frame: an echo shares its bits with the outbound frame it confirms, so the direction is
given beside the bytes (R91). -/
inductive Direction where
  /-- `FRAME_TX`: host to device. -/
  | outbound
  /-- `FRAME_RX`: device to host. -/
  | inbound
deriving DecidableEq, Repr

/-- One argument on the request port: a rational (R12), or the not-a-number a floating-point port could carry
(R270). -/
inductive Arg where
  | rational (q : ℚ)
  | notANumber
deriving DecidableEq, Repr

/-- What the request port carries: the 4-bit selector and the arguments (R118). -/
structure Request where
  opsel : BitVec 4
  args : List Arg
deriving DecidableEq, Repr

/-- What an operation is read from: the bytes of a wire frame in one direction, or a request of the host. -/
inductive Encoding where
  | wire (dir : Direction) (bytes : List Byte)
  | request (r : Request)
deriving DecidableEq, Repr

/-- Why an encoding spells no operation. -/
inductive DecodeError where
  /-- A frame is exactly four bytes (R90). -/
  | notFourBytes
  /-- The fourth byte is not the CRC of the first three: not a frame at all (R92). -/
  | crcMismatch
  /-- No outbound frame has this code (R96, R99). -/
  | noSuchOutboundCode (code : Byte)
  /-- `opsel` 9 to 15 spell no operation (R99). -/
  | noSuchOperation (opsel : BitVec 4)
  /-- The operation takes another number of arguments (R118). -/
  | wrongArgumentCount (opsel : BitVec 4)
  /-- An argument is not a number (R270, I14). -/
  | argumentNotANumber (opsel : BitVec 4)
deriving DecidableEq, Repr

end Sys2Proof
end

