-- ==== Sys2Proof/Machine/Codes.lean ====
section
/-! DEFINITION. The code spaces: outbound codes (R96), inbound codes and tag numbers (R97, R24), and which operation a
code and a payload select. -/

namespace Sys2Proof.Machine

/-- The thirteen tags in the order of R24. -/
def allTags : List Tag :=
  [.current, .voltage, .controllerTemp, .motorTemp, .rudder, .flags, .maxCurrent, .maxControllerTemp,
   .maxMotorTemp, .rudderRange, .maxSlew, .currentCalibration, .voltageCalibration]

/-- The tag numbers of R24. -/
def tagNumber : Tag → Nat
  | .current => 0
  | .voltage => 1
  | .controllerTemp => 2
  | .motorTemp => 3
  | .rudder => 4
  | .flags => 5
  | .maxCurrent => 6
  | .maxControllerTemp => 7
  | .maxMotorTemp => 8
  | .rudderRange => 9
  | .maxSlew => 10
  | .currentCalibration => 11
  | .voltageCalibration => 12

/-- The inbound codes of R97. -/
def rxCode : Tag → Byte
  | .current => 0x1C
  | .voltage => 0xB3
  | .controllerTemp => 0xF9
  | .motorTemp => 0x48
  | .rudder => 0xA7
  | .flags => 0x8F
  | .maxCurrent => 0x1E
  | .maxControllerTemp => 0xA4
  | .maxMotorTemp => 0x5A
  | .rudderRange => 0xB6
  | .maxSlew => 0x71
  | .currentCalibration => 0xDB
  | .voltageCalibration => 0x4E

/-- The eleven outbound frames in the order of R96. -/
def allTxKinds : List TxKind :=
  [.command, .reset, .maxCurrent, .maxControllerTemp, .maxMotorTemp, .rudderRange, .reprogram, .disengage,
   .maxSlew, .currentCalibration, .voltageCalibration]

/-- The outbound codes of R96. -/
def txCode : TxKind → Byte
  | .command => 0xC7
  | .reset => 0xE7
  | .maxCurrent => 0x1E
  | .maxControllerTemp => 0xA4
  | .maxMotorTemp => 0x5A
  | .rudderRange => 0xB6
  | .reprogram => 0x19
  | .disengage => 0x68
  | .maxSlew => 0x71
  | .currentCalibration => 0xDB
  | .voltageCalibration => 0x4E

/-- The tag an inbound code belongs to, none for the 243 unrecognised codes (R97, R98). -/
def tagOfCode (c : Byte) : Option Tag := allTags.find? fun t => rxCode t == c

/-- The outbound frame a code belongs to (R96). -/
def kindOfCode (c : Byte) : Option TxKind := allTxKinds.find? fun k => txCode k == c

/-- The inbound operation with this tag. -/
def rxInstr : Tag → U16 → Instr
  | .current => .rxCurrent
  | .voltage => .rxVoltage
  | .controllerTemp => .rxControllerTemp
  | .motorTemp => .rxMotorTemp
  | .rudder => .rxRudder
  | .flags => .rxFlags
  | .maxCurrent => .rxMaxCurrent
  | .maxControllerTemp => .rxMaxControllerTemp
  | .maxMotorTemp => .rxMaxMotorTemp
  | .rudderRange => .rxRudderRange
  | .maxSlew => .rxMaxSlew
  | .currentCalibration => .rxCurrentCalibration
  | .voltageCalibration => .rxVoltageCalibration

/-- The outbound operation of this kind. -/
def txInstr : TxKind → U16 → Instr
  | .command => .txCommand
  | .reset => .txReset
  | .maxCurrent => .txMaxCurrent
  | .maxControllerTemp => .txMaxControllerTemp
  | .maxMotorTemp => .txMaxMotorTemp
  | .rudderRange => .txRudderRange
  | .reprogram => .txReprogram
  | .disengage => .txDisengage
  | .maxSlew => .txMaxSlew
  | .currentCalibration => .txCurrentCalibration
  | .voltageCalibration => .txVoltageCalibration

/-- Which inbound operation a code selects: the code byte alone decides, and `RX.UNRECOGNIZED` is the default when no
other inbound row matches (R91, R98). -/
def selectRx (code : Byte) (payload : U16) : Instr :=
  match tagOfCode code with
  | some t => rxInstr t payload
  | none => .rxUnrecognized code payload

end Sys2Proof.Machine
end

