-- ==== Sys2Proof/WellFormed.lean ====
section
/-! DEFINITION. Which terms of `Instr` stand for an operation of the table, and which outbound payloads the link core
can produce. -/

namespace Sys2Proof

open Sys2Proof.Machine

/-- `RX.UNRECOGNIZED` is the default row: its code is none of the thirteen of R97 (R98, R214). Every payload is legal for
every code (R91), and every rational is an argument (R270, R275), so nothing else is checked. -/
def Instr.wellFormed : Instr → Bool
  | .rxUnrecognized code _ => (tagOfCode code).isNone
  | _ => true

/-- The payload ranges of R96's table: what the link core can produce, given the clamps of R27 and the fixed payloads of
`p` (R292 to R294). -/
def payloadProducible (p : Params) : TxKind → U16 → Bool
  | .command, v => decide (v.toNat ≤ 2000)
  | .reset, v => v == p.resetPayload
  | .maxCurrent, v => decide (v.toNat ≤ 6000)
  | .maxControllerTemp, v => decide (3000 ≤ v.toNat) && decide (v.toNat ≤ 8000)
  | .maxMotorTemp, v => decide (3000 ≤ v.toNat) && decide (v.toNat ≤ 8000)
  | .rudderRange, _ => true
  | .reprogram, v => v == p.reprogramPayload
  | .disengage, v => v == p.disengagePayload
  | .maxSlew, _ => true
  | .currentCalibration, v => decide ((lo8 v).toNat ≤ 250)
  | .voltageCalibration, v => decide ((lo8 v).toNat ≤ 250)

end Sys2Proof
end

