-- ==== Sys2Proof/Decode.lean ====
section
/-! DEFINITION. Decoding, total on any bytes and any request (R91, R98, R99, R118), and the encoder. The CRC test of
R92 is the Frame Codec's; the code byte then selects the operation. -/

namespace Sys2Proof

open Sys2Proof.Machine

/-- Four bytes as a frame, or the reason they are none (R90, R92, R151). -/
def decodeFrame (tbl : Vector Byte 256) : List Byte → Except DecodeError Frame
  | [b0, b1, b2, b3] =>
    match frameDecode tbl ⟨b0, b1, b2, b3⟩ with
    | some f => .ok f
    | none => .error .crcMismatch
  | _ => .error .notFourBytes

/-- Received bytes: the `FRAME_RX` rows, `RX.UNRECOGNIZED` by default (R91, R98). -/
def decodeRx (tbl : Vector Byte 256) (bs : List Byte) : Except DecodeError Instr :=
  match decodeFrame tbl bs with
  | .ok f => .ok (selectRx f.code f.payload)
  | .error e => .error e

/-- Bytes offered to the device: the `FRAME_TX` rows (R91, R96). -/
def decodeTx (tbl : Vector Byte 256) (bs : List Byte) : Except DecodeError Instr :=
  match decodeFrame tbl bs with
  | .ok f =>
    match kindOfCode f.code with
    | some k => .ok (txInstr k f.payload)
    | none => .error (.noSuchOutboundCode f.code)
  | .error e => .error e

/-- How many rational arguments a selector takes; `none` for 9 to 15 (R118, R99). -/
def argumentCount (opsel : BitVec 4) : Option Nat :=
  if opsel.toNat = 2 then some 1
  else if opsel.toNat = 4 then some 11
  else if opsel.toNat ≤ 8 then some 0
  else none

/-- The arguments as rationals, none if one is not a number (R12, R270). -/
def rationalArgs : List Arg → Option (List ℚ)
  | [] => some []
  | .rational q :: rest => (rationalArgs rest).map (q :: ·)
  | .notANumber :: _ => none

/-- The host operation with this selector and these arguments, if it takes exactly them (R118). -/
def selectOp (opsel : BitVec 4) (qs : List ℚ) : Option Instr :=
  match opsel.toNat, qs with
  | 0, [] => some .opInitialize
  | 1, [] => some .opInitStep
  | 2, [v] => some (.opCommand v)
  | 3, [] => some .opPoll
  | 4, [a1, a2, a3, a4, a5, a6, a7, a8, a9, a10, a11] =>
    some (.opSetConfiguration ⟨a1, a2, a3, a4, a5, a6, a7, a8, a9, a10, a11⟩)
  | 5, [] => some .opFault
  | 6, [] => some .opReset
  | 7, [] => some .opDisengage
  | 8, [] => some .opReprogram
  | _, _ => none

/-- A request of the host (R118): 9 to 15 spell nothing (R99), and an argument that is not a number is refused
(R270). -/
def decodeRequest (r : Request) : Except DecodeError Instr :=
  match argumentCount r.opsel with
  | none => .error (.noSuchOperation r.opsel)
  | some n =>
    if r.args.length = n then
      match rationalArgs r.args with
      | none => .error (.argumentNotANumber r.opsel)
      | some qs =>
        match selectOp r.opsel qs with
        | some i => .ok i
        | none => .error (.wrongArgumentCount r.opsel)
    else .error (.wrongArgumentCount r.opsel)

/-- The decoder: total on every encoding, each rejection by name. -/
def decode (tbl : Vector Byte 256) : Encoding → Except DecodeError Instr
  | .wire .outbound bs => decodeTx tbl bs
  | .wire .inbound bs => decodeRx tbl bs
  | .request r => decodeRequest r

/-- A wire frame as `FRAME.ENCODE` lays it out (R150). -/
def encodeWire (tbl : Vector Byte 256) (dir : Direction) (code : Byte) (payload : U16) : Encoding :=
  .wire dir (frameEncode tbl code payload).bytes

/-- A request with rational arguments (R118). -/
def encodeRequest (opsel : BitVec 4) (qs : List ℚ) : Encoding := .request ⟨opsel, qs.map .rational⟩

/-- The eleven arguments in the order of R275. -/
def configArgs (a : ConfigValues) : List ℚ :=
  [a.maxCurrent, a.maxControllerTemp, a.maxMotorTemp, a.rudderMin, a.rudderMax, a.slewFast, a.slewSlow,
   a.currentFactor, a.currentOffset, a.voltageFactor, a.voltageOffset]

/-- The encoding of an operation: for a frame its four bytes (R90, R96, R97), for a host operation its request
(R118). -/
def encode (tbl : Vector Byte 256) : Instr → Encoding
  | .txCommand v => encodeWire tbl .outbound (txCode .command) v
  | .txReset v => encodeWire tbl .outbound (txCode .reset) v
  | .txMaxCurrent v => encodeWire tbl .outbound (txCode .maxCurrent) v
  | .txMaxControllerTemp v => encodeWire tbl .outbound (txCode .maxControllerTemp) v
  | .txMaxMotorTemp v => encodeWire tbl .outbound (txCode .maxMotorTemp) v
  | .txRudderRange v => encodeWire tbl .outbound (txCode .rudderRange) v
  | .txReprogram v => encodeWire tbl .outbound (txCode .reprogram) v
  | .txDisengage v => encodeWire tbl .outbound (txCode .disengage) v
  | .txMaxSlew v => encodeWire tbl .outbound (txCode .maxSlew) v
  | .txCurrentCalibration v => encodeWire tbl .outbound (txCode .currentCalibration) v
  | .txVoltageCalibration v => encodeWire tbl .outbound (txCode .voltageCalibration) v
  | .rxCurrent v => encodeWire tbl .inbound (rxCode .current) v
  | .rxVoltage v => encodeWire tbl .inbound (rxCode .voltage) v
  | .rxControllerTemp v => encodeWire tbl .inbound (rxCode .controllerTemp) v
  | .rxMotorTemp v => encodeWire tbl .inbound (rxCode .motorTemp) v
  | .rxRudder v => encodeWire tbl .inbound (rxCode .rudder) v
  | .rxFlags v => encodeWire tbl .inbound (rxCode .flags) v
  | .rxMaxCurrent v => encodeWire tbl .inbound (rxCode .maxCurrent) v
  | .rxMaxControllerTemp v => encodeWire tbl .inbound (rxCode .maxControllerTemp) v
  | .rxMaxMotorTemp v => encodeWire tbl .inbound (rxCode .maxMotorTemp) v
  | .rxRudderRange v => encodeWire tbl .inbound (rxCode .rudderRange) v
  | .rxMaxSlew v => encodeWire tbl .inbound (rxCode .maxSlew) v
  | .rxCurrentCalibration v => encodeWire tbl .inbound (rxCode .currentCalibration) v
  | .rxVoltageCalibration v => encodeWire tbl .inbound (rxCode .voltageCalibration) v
  | .rxUnrecognized c v => encodeWire tbl .inbound c v
  | .opInitialize => encodeRequest 0 []
  | .opInitStep => encodeRequest 1 []
  | .opCommand v => encodeRequest 2 [v]
  | .opPoll => encodeRequest 3 []
  | .opSetConfiguration a => encodeRequest 4 (configArgs a)
  | .opFault => encodeRequest 5 []
  | .opReset => encodeRequest 6 []
  | .opDisengage => encodeRequest 7 []
  | .opReprogram => encodeRequest 8 []

/-- Which frame row a table word selects. The word does not carry the direction (R91): a code of the outbound space
alone is read as outbound, every other code as received (log 13). -/
def selectTableFrame (code : Byte) (payload : U16) : Instr :=
  match tagOfCode code, kindOfCode code with
  | none, some k => txInstr k payload
  | _, _ => selectRx code payload

/-- The instruction read from the bits of one row of spec/opcode_table.json. A word of at most one byte below 16 is the
selector of a host operation, whose arguments (to which the table gives no bits) are zero; every other word is a
frame word (R91), whose row the code byte alone selects: the row fixes no CRC bits and none are tested here
(log 13). -/
def decodeTableWord (nbits w : Nat) : Option Instr :=
  if nbits ≤ 8 ∧ w % 256 < 16 then
    let opsel := BitVec.ofNat 4 w
    selectOp opsel (List.replicate ((argumentCount opsel).getD 0) 0)
  else
    let q := quadOfWord (BitVec.ofNat 32 w)
    some (selectTableFrame q.b0 (cat16 q.b2 q.b1))

end Sys2Proof
end

