-- ==== Sys2Proof/Machine/Defaults.lean ====
section
/-! DEFINITION. The default parameter set of spec 00_scope.md R8, the one 95_test_vectors.md uses. -/

namespace Sys2Proof.Machine

/-- The defaults of R8. The table, the budgets and the masks are PRESUMED (the spec's own general knowledge, G1, G3, G4;
log 2, 4, 5); the capacity and the three payloads are DESIGN CHOICE (D3, D11; log 3, 6). -/
def defaultParams : Params where
  crcTable := crc8DefaultTable
  rxCapacity := 32
  initNoResponseBudget := 400
  initSyncBudget := 1000
  overcurrentMask := 0x0004
  invalidPacketMask := 0x0010
  resetPayload := 0x0000
  disengagePayload := 0x0000
  reprogramPayload := 0x0000

end Sys2Proof.Machine
end

