-- ==== Sys2Proof/Machine/State.lean ====
section
/-! DEFINITION. The state of the link core: the registers of spec 10_state.md R21 to R29, and beside them the model's own
fields (the parameters, the environment's answers, the request port, the returned outcome, the event history). -/

namespace Sys2Proof.Machine

/-- No operation of the link core stops with a fault: "No exceptions/panics cross the session boundary" (R300, R311);
every condition is in the outcome of the operation that met it. So there is no constructor: nobody raises a fault. -/
inductive Fault
deriving DecidableEq, Repr

/-- Inputs the spec asks a model to refuse. Each is safe: the model stops where the spec gives the machine no move. -/
inductive Refusal where
  /-- Raised by `exec` for an operation without a meaning yet (none is left). Safe. -/
  | notModelled (mnemonic : String)
  /-- Raised by `step` when the request spells no operation: `opsel` 9 to 15 (R99, I13), a wrong number of arguments, an
  argument that is not a number (R270, I14). Safe. -/
  | undecodable (e : DecodeError)
  /-- Raised by `INIT_STEP` outside phase `INIT`, where it spells no step (R262, I12). Safe. -/
  | initStepOutsideInit
  /-- Raised by `POLL` and `INIT_STEP` when the environment's answer holds more bytes than the room asked for, which the
  contract of R61 excludes (I10). Safe. -/
  | readBeyondRoom
  /-- Raised by `step` when two operations overlap (R72, R346, I11). Safe. -/
  | overlappingOperations
  /-- Raised by `step` when the parameter set breaks a constraint of R8 (I15). Safe. -/
  | parameterSetRefused
deriving DecidableEq, Repr

/-- Group RX: the buffered bytes, oldest first; `RX.len` is the list's length (R21). -/
structure RxBuffer where
  buf : List Byte
deriving DecidableEq, Repr

/-- Group SYNC (R22, R23). -/
structure SyncState where
  /-- `SYNC.in_sync_count`: 0 or 1 (R22). -/
  inSyncCount : Nat
  /-- `SYNC.out_sync`: 0 to 22 (R23). -/
  outSync : Nat
deriving DecidableEq, Repr

/-- Group DS: the thirteen Device Status registers, each the raw payload of the last accepted frame (R24). -/
structure DeviceStatus where
  currentRaw : U16
  voltageRaw : U16
  controllerTempRaw : U16
  motorTempRaw : U16
  rudderRaw : U16
  flags : U16
  maxCurrentRaw : U16
  maxControllerTempRaw : U16
  maxMotorTempRaw : U16
  rudderRangeRaw : U16
  maxSlewRaw : U16
  currentCalRaw : U16
  voltageCalRaw : U16
deriving DecidableEq, Repr

/-- Group CFG: the eleven registers of R27 and the guard of R28. -/
structure ConfigSet where
  values : ConfigValues
  /-- `CFG.params_set` (R28). -/
  paramsSet : Bool
deriving DecidableEq, Repr

/-- `SES.phase` (R29). -/
inductive Phase where
  | idle | init | ready | failedNoResponse | failedSync
deriving DecidableEq, Repr

/-- Group SES (R29). -/
structure Session where
  phase : Phase
  /-- `SES.init_cycles`: initialization cycles done since `INITIALIZE`. -/
  initCycles : Nat
  /-- `SES.init_data_seen`: some byte has been read since `INITIALIZE`. -/
  initDataSeen : Bool
  /-- `SES.init_streak`: consecutive initialization cycles that ended in sync. -/
  initStreak : Nat
deriving DecidableEq, Repr

/-- `RxResult`, the answer of one read of the receive stream (R61). `Bytes` holds at least one byte. -/
inductive RxResult where
  | bytes (first : Byte) (rest : List Byte)
  | wouldBlock
  | error
deriving DecidableEq, Repr

/-- The answer to one frame write (R65). -/
inductive WriteAnswer where
  | ok | error
deriving DecidableEq, Repr

/-- The answers the environment will give, in order (R15): inputs, not registers. A list that has run out answers as the
notation of R119 reads a line without answers (log 9). -/
structure Environment where
  reads : List RxResult
  writes : List WriteAnswer
deriving DecidableEq, Repr

/-- One call standing on the request port (R60, R118). -/
inductive Call where
  | request (r : Request)
  /-- Two requests that overlap in time, which a model refuses (R346). -/
  | overlapping (first second : Request)
deriving DecidableEq, Repr

/-- One entry of the event history (R74). -/
inductive IoEvent where
  /-- A host operation begins: the events after it are its own. -/
  | began (i : Instr)
  /-- A read of the receive stream, with the room asked for and the answer. -/
  | read (room : Nat) (rx : RxResult)
  /-- An offer of four bytes to the transmit stream, with the answer. -/
  | write (f : Quad) (a : WriteAnswer)
deriving DecidableEq, Repr

/-- The status of an outcome (R14, R300). -/
inductive Status where
  | ok | ioReadError | ioWriteError | noResponse | syncFailure | inProgress
deriving DecidableEq, Repr

/-- The event set of an outcome (R14): the warnings, and for `INIT_STEP` alone the link errors of its cycle. -/
structure Events where
  ioReadError : Bool
  ioWriteError : Bool
  overflow : Bool
  invalidPacket : Bool
deriving DecidableEq, Repr

/-- The outcome of a host operation (R14). -/
structure OpOutcome where
  status : Status
  tags : TagSet
  events : Events
  /-- The Boolean of `FAULT`, absent for every other operation. -/
  value : Option Bool
deriving DecidableEq, Repr

/-- The state: five register groups of the spec (R20) and the model's own fields. -/
structure State where
  /-- MODEL'S OWN: the parameters of R8, constants of the run (R32; log 1). -/
  par : Params
  /-- Group RX (R21). -/
  rx : RxBuffer
  /-- Group SYNC (R22, R23). -/
  sync : SyncState
  /-- Group DS (R24 to R26). -/
  ds : DeviceStatus
  /-- Group CFG (R27, R28). -/
  cfg : ConfigSet
  /-- Group SES (R29). -/
  ses : Session
  /-- MODEL'S OWN: the environment's answers still to come (R15; log 9). -/
  env : Environment
  /-- MODEL'S OWN: the calls standing on the request port, the next one first (R60, D1; log 11). -/
  port : List Call
  /-- MODEL'S OWN: the event history, oldest first (R74; log 16). -/
  hist : List IoEvent
  /-- MODEL'S OWN: the outcome the last operation returned, none before the first (R14; log 15). -/
  response : Option OpOutcome
deriving DecidableEq, Repr

/-- Write the Receive Buffer. -/
def State.setRx (s : State) (v : RxBuffer) : State := { s with rx := v }

/-- Write the Sync State. -/
def State.setSync (s : State) (v : SyncState) : State := { s with sync := v }

/-- Write Device Status. -/
def State.setDs (s : State) (v : DeviceStatus) : State := { s with ds := v }

/-- Write the Configuration Set. -/
def State.setCfg (s : State) (v : ConfigSet) : State := { s with cfg := v }

/-- Write the session registers. -/
def State.setSes (s : State) (v : Session) : State := { s with ses := v }

/-- Write the answers still to come. -/
def State.setEnv (s : State) (v : Environment) : State := { s with env := v }

/-- Write the calls standing on the request port. -/
def State.setPort (s : State) (v : List Call) : State := { s with port := v }

/-- Write the event history. -/
def State.setHist (s : State) (v : List IoEvent) : State := { s with hist := v }

/-- Write the outcome returned to the host. -/
def State.setResponse (s : State) (v : Option OpOutcome) : State := { s with response := v }

/-- Device Status after reset (R33). -/
def DeviceStatus.reset : DeviceStatus where
  currentRaw := 0x0000
  voltageRaw := 0x0000
  controllerTempRaw := 0x0000
  motorTempRaw := 0x0000
  rudderRaw := 0xFFFF
  flags := 0x0000
  maxCurrentRaw := 0x0000
  maxControllerTempRaw := 0x0000
  maxMotorTempRaw := 0x0000
  rudderRangeRaw := 0x0000
  maxSlewRaw := 0x0000
  currentCalRaw := 0x0000
  voltageCalRaw := 0x0000

/-- The Configuration Set after reset: eleven zeros behind a clear guard (R27, R28, R33). -/
def ConfigSet.reset : ConfigSet where
  values := ⟨0, 0, 0, 0, 0, 0, 0, 0, 0, 0, 0⟩
  paramsSet := false

/-- The session registers after reset (R29, R33). -/
def Session.reset : Session where
  phase := .idle
  initCycles := 0
  initDataSeen := false
  initStreak := 0

/-- The session just constructed under the parameters `p` (R33, R340): no input stands anywhere, nothing has been
sent. -/
def State.resetWith (p : Params) : State where
  par := p
  rx := ⟨[]⟩
  sync := ⟨0, 0⟩
  ds := .reset
  cfg := .reset
  ses := .reset
  env := ⟨[], []⟩
  port := []
  hist := []
  response := none

/-- The machine right after reset (R33, R340), under the default parameters of R8 (log 1). -/
def State.reset : State := State.resetWith defaultParams

end Sys2Proof.Machine
end

