-- ==== Sys2Proof/Machine/Flags.lean ====
section
/-! DEFINITION. Flags: the two named fields of `DS.flags` (R26), the signal `in_sync` (R22), tag sets (R24), event sets
(R14) and the numeric codes of R300. -/

namespace Sys2Proof.Machine

/-- `overcurrent` (R26). -/
def overcurrent (p : Params) (flags : U16) : Bool := flags &&& p.overcurrentMask != 0

/-- `invalid_packet` (R26). -/
def invalidPacketFlag (p : Params) (flags : U16) : Bool := flags &&& p.invalidPacketMask != 0

/-- The signal `in_sync` (R22). -/
def inSync (y : SyncState) : Bool := decide (1 ≤ y.inSyncCount)

/-- `{t}` as a 13-bit vector (R24). -/
def tagBit (t : Tag) : TagSet := 1#13 <<< tagNumber t

/-- Membership of a tag in a set (R24). -/
def tagMember (ts : TagSet) (t : Tag) : Bool := ts.getLsbD (tagNumber t)

/-- The empty event set. -/
def Events.none : Events := ⟨false, false, false, false⟩

/-- Union of event sets. -/
def Events.union (a b : Events) : Events :=
  ⟨a.ioReadError || b.ioReadError, a.ioWriteError || b.ioWriteError, a.overflow || b.overflow,
   a.invalidPacket || b.invalidPacket⟩

/-- `{OVERFLOW}` (R303). -/
def Events.onlyOverflow : Events := { Events.none with overflow := true }

/-- `{INVALID_PACKET}` (R304). -/
def Events.onlyInvalidPacket : Events := { Events.none with invalidPacket := true }

/-- `{IO_READ_ERROR}`, which `INIT_STEP` alone reports as an event (R262). -/
def Events.onlyReadError : Events := { Events.none with ioReadError := true }

/-- `{IO_WRITE_ERROR}`, which `INIT_STEP` alone reports as an event (R262). -/
def Events.onlyWriteError : Events := { Events.none with ioWriteError := true }

/-- The code of a status on a status port (R300). -/
def statusCode : Status → Nat
  | .ok => 0
  | .ioReadError => 1
  | .ioWriteError => 2
  | .noResponse => 5
  | .syncFailure => 6
  | .inProgress => 7

/-- The codes of the events in a set, in the order of R300. -/
def eventCodes (e : Events) : List Nat :=
  (if e.ioReadError then [1] else []) ++ (if e.ioWriteError then [2] else [])
    ++ (if e.overflow then [3] else []) ++ (if e.invalidPacket then [4] else [])

end Sys2Proof.Machine
end

