-- ==== Sys2Proof/Machine/Ops.lean ====
section
/-! DEFINITION. The named operations over the streams and the Receive Buffer (spec 20_memory.md R61 to R66), and the one
shared operation that reports a condition (spec 60_exceptions.md). -/

namespace Sys2Proof.Machine

/-! ## Device Status -/

/-- `DS[t]` (R13, R24). -/
def DeviceStatus.get (d : DeviceStatus) : Tag → U16
  | .current => d.currentRaw
  | .voltage => d.voltageRaw
  | .controllerTemp => d.controllerTempRaw
  | .motorTemp => d.motorTempRaw
  | .rudder => d.rudderRaw
  | .flags => d.flags
  | .maxCurrent => d.maxCurrentRaw
  | .maxControllerTemp => d.maxControllerTempRaw
  | .maxMotorTemp => d.maxMotorTempRaw
  | .rudderRange => d.rudderRangeRaw
  | .maxSlew => d.maxSlewRaw
  | .currentCalibration => d.currentCalRaw
  | .voltageCalibration => d.voltageCalRaw

/-- `DS[t] <- v` (R13, R24). -/
def DeviceStatus.set (d : DeviceStatus) (t : Tag) (v : U16) : DeviceStatus :=
  match t with
  | .current => { d with currentRaw := v }
  | .voltage => { d with voltageRaw := v }
  | .controllerTemp => { d with controllerTempRaw := v }
  | .motorTemp => { d with motorTempRaw := v }
  | .rudder => { d with rudderRaw := v }
  | .flags => { d with flags := v }
  | .maxCurrent => { d with maxCurrentRaw := v }
  | .maxControllerTemp => { d with maxControllerTempRaw := v }
  | .maxMotorTemp => { d with maxMotorTempRaw := v }
  | .rudderRange => { d with rudderRangeRaw := v }
  | .maxSlew => { d with maxSlewRaw := v }
  | .currentCalibration => { d with currentCalRaw := v }
  | .voltageCalibration => { d with voltageCalRaw := v }

/-! ## The Receive Buffer -/

/-- `RX.len` (R21). -/
def rxLen (s : State) : Nat := s.rx.buf.length

/-- The room one read asks for (R61). -/
def rxRoom (s : State) : Nat := s.par.rxCapacity - rxLen s

/-- `RxPeek(i)`, for `i < RX.len`; no rule peeks beyond (R62). -/
def rxPeek (s : State) (i : Nat) : Option Byte := s.rx.buf[i]?

/-- `RxAppend(bs)` (R63). -/
def rxAppend (bs : List Byte) (s : State) : State := s.setRx ⟨s.rx.buf ++ bs⟩

/-- `RxDrop(n)` (R64). -/
def rxDrop (n : Nat) (s : State) : State := s.setRx ⟨s.rx.buf.drop n⟩

/-- The four oldest bytes, when `RX.len >= 4` (R173). -/
def rxWindow (s : State) : Option Quad :=
  match rxPeek s 0, rxPeek s 1, rxPeek s 2, rxPeek s 3 with
  | some b0, some b1, some b2, some b3 => some ⟨b0, b1, b2, b3⟩
  | _, _, _, _ => none

/-! ## The streams -/

/-- The bytes an answer brings: none for `WouldBlock`, which is a read of zero bytes (R61, D32). -/
def rxBytes : RxResult → List Byte
  | .bytes b bs => b :: bs
  | .wouldBlock => []
  | .error => []

/-- The answer the environment gives next to a read; none standing means no byte is available now (R61; log 9). -/
def nextRead (e : Environment) : RxResult := e.reads.headD .wouldBlock

/-- The answer the environment gives next to a write; none standing reads `ok`, as in the notation of R119 (log 9). -/
def nextWrite (e : Environment) : WriteAnswer := e.writes.headD .ok

/-- What a read leaves: the answer, and the state with the answer consumed and recorded. -/
structure ReadDone where
  rx : RxResult
  state : State

/-- One read of the receive stream, asking for the free room (R61, R74). An answer of more bytes than the room breaks the
contract of R61 and is refused (I10). -/
def rxRead (s : State) : Except Refusal ReadDone :=
  let rx := nextRead s.env
  if (rxBytes rx).length ≤ rxRoom s then
    .ok ⟨rx, (s.setEnv { s.env with reads := s.env.reads.tail }).setHist (s.hist ++ [.read (rxRoom s) rx])⟩
  else .error .readBeyondRoom

/-- What a write leaves: the answer, and the state with the answer consumed and the offer recorded. -/
structure WriteDone where
  answer : WriteAnswer
  state : State

/-- `TxWrite(f)` (R65, R74): the four bytes are offered whole, once. -/
def txWrite (f : Quad) (s : State) : WriteDone :=
  let a := nextWrite s.env
  ⟨a, (s.setEnv { s.env with writes := s.env.writes.tail }).setHist (s.hist ++ [.write f a])⟩

/-! ## Reporting a condition

There is no trap (R311): nothing is saved, masked or switched, no control is transferred, and there is nothing to
return from (R312). An operation ends by returning its outcome, and that is all a condition leaves. -/

/-- The tags and events an operation has gathered (R31). -/
structure Report where
  tags : TagSet
  events : Events
deriving DecidableEq, Repr

/-- `({}, {})`. -/
def Report.empty : Report := ⟨0, .none⟩

/-- `tags + t ; events + e` (R173). -/
def Report.union (a b : Report) : Report := ⟨a.tags ||| b.tags, a.events.union b.events⟩

/-- An operation returns its outcome (R14, R311). -/
def respond (o : OpOutcome) (s : State) : State := s.setResponse (some o)

/-- Return with a status and a report, no value. -/
def respondReport (st : Status) (r : Report) (s : State) : State := respond ⟨st, r.tags, r.events, none⟩ s

/-- Return with a status alone. -/
def respondStatus (st : Status) (s : State) : State := respondReport st .empty s

/-- The status of an operation that only writes: one `IO_WRITE_ERROR` if any write answered `error` (R302). -/
def writeStatus (a b : WriteAnswer) : Status :=
  if a = .error ∨ b = .error then .ioWriteError else .ok

end Sys2Proof.Machine
end

