-- ==== Sys2Proof/Machine/Telemetry.lean ====
section
/-! DEFINITION. The Telemetry Decoder (spec 43_telemetry_decoder.md): what each accepted inbound frame does, and the
meanings of the fourteen inbound rows. -/

namespace Sys2Proof.Machine

/-- What decoding one accepted frame yields: Device Status, and at most one tag and one event (R200). -/
structure Decoded where
  ds : DeviceStatus
  report : Report
deriving DecidableEq, Repr

/-- `DS[t] <- payload ; return ({t}, {})` (R200). -/
def storeTag (t : Tag) (payload : U16) (d : DeviceStatus) : Decoded := ⟨d.set t payload, ⟨tagBit t, .none⟩⟩

/-- R201. -/
def rxCurrent (payload : U16) (d : DeviceStatus) : Decoded := storeTag .current payload d
/-- R202. -/
def rxVoltage (payload : U16) (d : DeviceStatus) : Decoded := storeTag .voltage payload d
/-- R203. -/
def rxControllerTemp (payload : U16) (d : DeviceStatus) : Decoded := storeTag .controllerTemp payload d
/-- R204. -/
def rxMotorTemp (payload : U16) (d : DeviceStatus) : Decoded := storeTag .motorTemp payload d
/-- R205: the sentinel is stored and tagged like any other payload. -/
def rxRudder (payload : U16) (d : DeviceStatus) : Decoded := storeTag .rudder payload d

/-- R206: all sixteen bits replace the register; the invalid-packet bit raises a warning for every such frame (D35). -/
def rxFlags (p : Params) (payload : U16) (d : DeviceStatus) : Decoded :=
  ⟨d.set .flags payload,
   ⟨tagBit .flags, if invalidPacketFlag p payload then .onlyInvalidPacket else .none⟩⟩

/-- R207. -/
def rxMaxCurrent (payload : U16) (d : DeviceStatus) : Decoded := storeTag .maxCurrent payload d
/-- R208. -/
def rxMaxControllerTemp (payload : U16) (d : DeviceStatus) : Decoded := storeTag .maxControllerTemp payload d
/-- R209. -/
def rxMaxMotorTemp (payload : U16) (d : DeviceStatus) : Decoded := storeTag .maxMotorTemp payload d
/-- R210. -/
def rxRudderRange (payload : U16) (d : DeviceStatus) : Decoded := storeTag .rudderRange payload d
/-- R211. -/
def rxMaxSlew (payload : U16) (d : DeviceStatus) : Decoded := storeTag .maxSlew payload d
/-- R212. -/
def rxCurrentCalibration (payload : U16) (d : DeviceStatus) : Decoded := storeTag .currentCalibration payload d
/-- R213. -/
def rxVoltageCalibration (payload : U16) (d : DeviceStatus) : Decoded := storeTag .voltageCalibration payload d
/-- R214: writes nothing, returns no tag, raises nothing. -/
def rxUnrecognized (_code : Byte) (_payload : U16) (d : DeviceStatus) : Decoded := ⟨d, .empty⟩

/-- `TELEM.DECODE(code, payload)` (R200), total over all codes and payloads (R215). -/
def telemDecode (p : Params) (code : Byte) (payload : U16) (d : DeviceStatus) : Decoded :=
  match tagOfCode code with
  | some .current => rxCurrent payload d
  | some .voltage => rxVoltage payload d
  | some .controllerTemp => rxControllerTemp payload d
  | some .motorTemp => rxMotorTemp payload d
  | some .rudder => rxRudder payload d
  | some .flags => rxFlags p payload d
  | some .maxCurrent => rxMaxCurrent payload d
  | some .maxControllerTemp => rxMaxControllerTemp payload d
  | some .maxMotorTemp => rxMaxMotorTemp payload d
  | some .rudderRange => rxRudderRange payload d
  | some .maxSlew => rxMaxSlew payload d
  | some .currentCalibration => rxCurrentCalibration payload d
  | some .voltageCalibration => rxVoltageCalibration payload d
  | none => rxUnrecognized code payload d

/-- An accepted frame by itself: Device Status written, the tag and the event returned (R200). The Resynchronizer calls
the same decoders on the frames of its buffer. -/
def acceptFrame (r : Decoded) (s : State) : Host.Outcome State Fault Refusal :=
  .next (respondReport .ok r.report (s.setDs r.ds))

/-- `RX.CURRENT` (R201). -/
def execRxCurrent (payload : U16) (s : State) : Host.Outcome State Fault Refusal :=
  acceptFrame (rxCurrent payload s.ds) s
/-- `RX.VOLTAGE` (R202). -/
def execRxVoltage (payload : U16) (s : State) : Host.Outcome State Fault Refusal :=
  acceptFrame (rxVoltage payload s.ds) s
/-- `RX.CONTROLLER_TEMP` (R203). -/
def execRxControllerTemp (payload : U16) (s : State) : Host.Outcome State Fault Refusal :=
  acceptFrame (rxControllerTemp payload s.ds) s
/-- `RX.MOTOR_TEMP` (R204). -/
def execRxMotorTemp (payload : U16) (s : State) : Host.Outcome State Fault Refusal :=
  acceptFrame (rxMotorTemp payload s.ds) s
/-- `RX.RUDDER` (R205). -/
def execRxRudder (payload : U16) (s : State) : Host.Outcome State Fault Refusal :=
  acceptFrame (rxRudder payload s.ds) s
/-- `RX.FLAGS` (R206). -/
def execRxFlags (payload : U16) (s : State) : Host.Outcome State Fault Refusal :=
  acceptFrame (rxFlags s.par payload s.ds) s
/-- `RX.MAX_CURRENT` (R207). -/
def execRxMaxCurrent (payload : U16) (s : State) : Host.Outcome State Fault Refusal :=
  acceptFrame (rxMaxCurrent payload s.ds) s
/-- `RX.MAX_CONTROLLER_TEMP` (R208). -/
def execRxMaxControllerTemp (payload : U16) (s : State) : Host.Outcome State Fault Refusal :=
  acceptFrame (rxMaxControllerTemp payload s.ds) s
/-- `RX.MAX_MOTOR_TEMP` (R209). -/
def execRxMaxMotorTemp (payload : U16) (s : State) : Host.Outcome State Fault Refusal :=
  acceptFrame (rxMaxMotorTemp payload s.ds) s
/-- `RX.RUDDER_RANGE` (R210). -/
def execRxRudderRange (payload : U16) (s : State) : Host.Outcome State Fault Refusal :=
  acceptFrame (rxRudderRange payload s.ds) s
/-- `RX.MAX_SLEW` (R211). -/
def execRxMaxSlew (payload : U16) (s : State) : Host.Outcome State Fault Refusal :=
  acceptFrame (rxMaxSlew payload s.ds) s
/-- `RX.CURRENT_CALIBRATION` (R212). -/
def execRxCurrentCalibration (payload : U16) (s : State) : Host.Outcome State Fault Refusal :=
  acceptFrame (rxCurrentCalibration payload s.ds) s
/-- `RX.VOLTAGE_CALIBRATION` (R213). -/
def execRxVoltageCalibration (payload : U16) (s : State) : Host.Outcome State Fault Refusal :=
  acceptFrame (rxVoltageCalibration payload s.ds) s
/-- `RX.UNRECOGNIZED` (R214). -/
def execRxUnrecognized (code : Byte) (payload : U16) (s : State) : Host.Outcome State Fault Refusal :=
  acceptFrame (rxUnrecognized code payload s.ds) s

end Sys2Proof.Machine
end

