-- ==== Sys2Proof/Machine/Resync.lean ====
section
/-! DEFINITION. The Receive Resynchronizer (spec 42_resynchronizer.md). -/

namespace Sys2Proof.Machine

/-- A state and what has been gathered on the way to it. -/
structure Drained where
  state : State
  report : Report

/-- `RESYNC.APPEND(bs)` (R171). -/
def resyncAppend (bs : List Byte) (s : State) : State := rxAppend bs s

/-- `RESYNC.FLUSH` (R172): the buffer is emptied; `SYNC.in_sync_count` stays. -/
def resyncFlush (s : State) : Drained := ⟨s.setRx ⟨[]⟩, ⟨0, .onlyOverflow⟩⟩

/-- The matching branch (R174): the first valid frame while the count is 0 is discarded, every other one decoded; four
bytes are dropped either way. -/
def resyncMatch (q : Quad) (s : State) : Drained :=
  if s.sync.inSyncCount = 0 then
    ⟨rxDrop 4 (s.setSync { s.sync with inSyncCount := 1 }), .empty⟩
  else
    let r := telemDecode s.par q.b0 (cat16 q.b2 q.b1) s.ds
    ⟨rxDrop 4 (s.setDs r.ds), r.report⟩

/-- The mismatching branch (R175): the count is cleared and one byte dropped. -/
def resyncMismatch (s : State) : Drained :=
  ⟨rxDrop 1 (s.setSync { s.sync with inSyncCount := 0 }), .empty⟩

/-- One turn of the drain loop on the window `q` (R173). -/
def resyncTurn (q : Quad) (s : State) : Drained :=
  if validFrame s.par.crcTable q then resyncMatch q s else resyncMismatch s

/-- The drain loop of R173 with `fuel` turns allowed; it stops when fewer than four bytes are buffered. -/
def resyncLoop : Nat → State → Report → Drained
  | 0, s, r => ⟨s, r⟩
  | fuel + 1, s, r =>
    match rxWindow s with
    | none => ⟨s, r⟩
    | some q =>
      let d := resyncTurn q s
      resyncLoop fuel d.state (r.union d.report)

/-- `RESYNC.DRAIN` (R173). Every turn removes a byte, so `RX.len` turns are enough. -/
def resyncDrain (s : State) : Drained := resyncLoop (rxLen s) s .empty

/-- What `RESYNC.RUN` returns (R170). -/
structure Resynced where
  status : Status
  report : Report
  state : State

/-- `RESYNC.RUN(rx)` (R170): a read error changes nothing (R179); a read that fills the buffer flushes it before anything
is tested (R172); otherwise the buffer is drained. -/
def resyncRun (rx : RxResult) (s : State) : Resynced :=
  if rx = .error then ⟨.ioReadError, .empty, s⟩
  else
    let s1 := resyncAppend (rxBytes rx) s
    let d := if rxLen s1 = s.par.rxCapacity then resyncFlush s1 else resyncDrain s1
    ⟨.ok, d.report, d.state⟩

end Sys2Proof.Machine
end

