-- ==== Sys2Proof/Machine/Scheduler.lean ====
section
/-! DEFINITION. The Parameter Scheduler (spec 44_param_scheduler.md): the schedule, the packing of the seven items, the
scheduler tick, and the meanings of the seven parameter rows of the table. -/

namespace Sys2Proof.Machine

/-- The item slot `s` carries, if any (R230). -/
def scheduledItem (slot : Nat) : Option TxKind :=
  match slot with
  | 0 | 8 | 16 => some .maxCurrent
  | 4 => some .maxControllerTemp
  | 6 => some .maxMotorTemp
  | 12 => some .rudderRange
  | 18 => some .maxSlew
  | 20 => some .currentCalibration
  | 22 => some .voltageCalibration
  | _ => none

/-- `PackMaxCurrent()` (R232). -/
def packMaxCurrent (c : ConfigValues) : U16 := u16Field (roundSilent (c.maxCurrent * 100))

/-- `PackMaxControllerTemp()` (R233). -/
def packMaxControllerTemp (c : ConfigValues) : U16 := u16Field (roundSilent (c.maxControllerTemp * 100))

/-- `PackMaxMotorTemp()` (R234). -/
def packMaxMotorTemp (c : ConfigValues) : U16 := u16Field (roundSilent (c.maxMotorTemp * 100))

/-- `PackRudderRange()` (R235). -/
def packRudderRange (c : ConfigValues) : U16 :=
  cat16 (byteField (roundSilent (c.rudderMax * 255))) (byteField (roundSilent (c.rudderMin * 255)))

/-- `PackMaxSlew()` (R236): the fast limit in the low byte, the slow limit in the high byte (D13). -/
def packMaxSlew (c : ConfigValues) : U16 :=
  cat16 (byteField (roundStated (c.slewSlow * 255 / 100))) (byteField (roundStated (c.slewFast * 255 / 100)))

/-- The shape of a calibration payload (R237, R238): factor low, offset high. -/
def packCalibration (factor offset : ℚ) : U16 :=
  cat16 (tc8 (roundSilent offset)) (byteField (roundStated ((factor - 8 / 10) / (16 / 10000))))

/-- `PackCurrentCalibration()` (R237). -/
def packCurrentCalibration (c : ConfigValues) : U16 := packCalibration c.currentFactor c.currentOffset

/-- `PackVoltageCalibration()` (R238). -/
def packVoltageCalibration (c : ConfigValues) : U16 := packCalibration c.voltageFactor c.voltageOffset

/-- The payload of a frame of each kind as the link core itself would send it outside `COMMAND`: the packed item, the
fixed payload of the parameter set (R292 to R294), or the neutral command (R291, D22). -/
def ownPayload (p : Params) (c : ConfigValues) : TxKind → U16
  | .command => 1000
  | .reset => p.resetPayload
  | .maxCurrent => packMaxCurrent c
  | .maxControllerTemp => packMaxControllerTemp c
  | .maxMotorTemp => packMaxMotorTemp c
  | .rudderRange => packRudderRange c
  | .reprogram => p.reprogramPayload
  | .disengage => p.disengagePayload
  | .maxSlew => packMaxSlew c
  | .currentCalibration => packCurrentCalibration c
  | .voltageCalibration => packVoltageCalibration c

/-- `TxWrite(FRAME.ENCODE(code, payload))` (R65, R150). -/
def sendFrame (k : TxKind) (payload : U16) (s : State) : WriteDone :=
  txWrite (frameEncode s.par.crcTable (txCode k) payload) s

/-- The part of `SCHED.STEP` before the advance: the item of the slot is packed and offered, only if the guard
`CFG.params_set` is set and the slot carries one (R231, R239). -/
def offerScheduled (s : State) : WriteDone :=
  if s.cfg.paramsSet then
    match scheduledItem s.sync.outSync with
    | some k => sendFrame k (ownPayload s.par s.cfg.values k) s
    | none => ⟨.ok, s⟩
  else ⟨.ok, s⟩

/-- `SYNC.out_sync <- (SYNC.out_sync + 1) mod 23` (R231). -/
def advanceSchedule (s : State) : State :=
  s.setSync { s.sync with outSync := (s.sync.outSync + 1) % Config.schedPeriod }

/-- `SCHED.STEP` (R231): serve the slot, then advance, whatever the write answered. -/
def schedStep (s : State) : WriteDone :=
  let w := offerScheduled s
  ⟨w.answer, advanceSchedule w.state⟩

/-- One outbound frame by itself: offered once, `IO_WRITE_ERROR` if the answer is `error` (R65, R302). -/
def offerFrame (k : TxKind) (payload : U16) (s : State) : Host.Outcome State Fault Refusal :=
  let w := sendFrame k payload s
  .next (respondStatus (writeStatus w.answer .ok) w.state)

/-- `TX.MAX_CURRENT` (R232). -/
def execTxMaxCurrent (payload : U16) (s : State) : Host.Outcome State Fault Refusal :=
  offerFrame .maxCurrent payload s
/-- `TX.MAX_CONTROLLER_TEMP` (R233). -/
def execTxMaxControllerTemp (payload : U16) (s : State) : Host.Outcome State Fault Refusal :=
  offerFrame .maxControllerTemp payload s
/-- `TX.MAX_MOTOR_TEMP` (R234). -/
def execTxMaxMotorTemp (payload : U16) (s : State) : Host.Outcome State Fault Refusal :=
  offerFrame .maxMotorTemp payload s
/-- `TX.RUDDER_RANGE` (R235). -/
def execTxRudderRange (payload : U16) (s : State) : Host.Outcome State Fault Refusal :=
  offerFrame .rudderRange payload s
/-- `TX.MAX_SLEW` (R236). -/
def execTxMaxSlew (payload : U16) (s : State) : Host.Outcome State Fault Refusal :=
  offerFrame .maxSlew payload s
/-- `TX.CURRENT_CALIBRATION` (R237). -/
def execTxCurrentCalibration (payload : U16) (s : State) : Host.Outcome State Fault Refusal :=
  offerFrame .currentCalibration payload s
/-- `TX.VOLTAGE_CALIBRATION` (R238). -/
def execTxVoltageCalibration (payload : U16) (s : State) : Host.Outcome State Fault Refusal :=
  offerFrame .voltageCalibration payload s

end Sys2Proof.Machine
end

