-- ==== Sys2Proof/Machine/Session.lean ====
section
/-! DEFINITION. The Device Session (spec 45_device_session.md): the meanings of the nine host operations and of the four
command frames. -/

namespace Sys2Proof.Machine

/-! ## The command frames -/

/-- `TX.COMMAND` (R291). -/
def execTxCommand (payload : U16) (s : State) : Host.Outcome State Fault Refusal := offerFrame .command payload s
/-- `TX.RESET` (R292). -/
def execTxReset (payload : U16) (s : State) : Host.Outcome State Fault Refusal := offerFrame .reset payload s
/-- `TX.DISENGAGE` (R293). -/
def execTxDisengage (payload : U16) (s : State) : Host.Outcome State Fault Refusal := offerFrame .disengage payload s
/-- `TX.REPROGRAM` (R294). -/
def execTxReprogram (payload : U16) (s : State) : Host.Outcome State Fault Refusal := offerFrame .reprogram payload s

/-- `RoundSilent((clamp(value, -1, 1) + 1) * 1000)`, 0 to 2000 (R94, R270, R291). -/
def commandPayload (value : ℚ) : U16 := u16Field (roundSilent ((clamp value (-1) 1 + 1) * 1000))

/-- The payload of the neutral command (R262, R291, D22). -/
def neutralPayload : U16 := 1000

/-! ## Initialization -/

/-- The session registers `INITIALIZE` starts with (R261). -/
def Session.starting : Session where
  phase := .init
  initCycles := 0
  initDataSeen := false
  initStreak := 0

/-- `OP.INITIALIZE` (R261). -/
def execOpInitialize (s : State) : Host.Outcome State Fault Refusal :=
  .next (respondStatus .ok (s.setSes .starting))

/-- The counters at the end of an initialization cycle that read `rx` and ended with the sync state `y` (R262). -/
def countCycle (rx : RxResult) (y : SyncState) (e : Session) : Session where
  phase := e.phase
  initCycles := e.initCycles + 1
  initDataSeen := e.initDataSeen || !(rxBytes rx).isEmpty
  initStreak := if inSync y then min (e.initStreak + 1) Config.initSustain else 0

/-- The verdict of a cycle, its three tests in the order of R262, on the counters already advanced. -/
def initVerdict (p : Params) (e : Session) : Phase × Status :=
  if Config.initSustain ≤ e.initStreak then (.ready, .ok)
  else if e.initDataSeen = false ∧ p.initNoResponseBudget ≤ e.initCycles then (.failedNoResponse, .noResponse)
  else if p.initSyncBudget ≤ e.initCycles then (.failedSync, .syncFailure)
  else (e.phase, .inProgress)

/-- The events of an initialization cycle: the warnings of its drain, and the link errors, which have no other place
because the verdict takes `status` (R262). -/
def initEvents (a1 a2 : WriteAnswer) (r : Resynced) : Events :=
  ((if writeStatus a1 a2 = .ioWriteError then .onlyWriteError else .none : Events).union r.report.events).union
    (if r.status = .ioReadError then .onlyReadError else .none)

/-- The end of an initialization cycle: counters, verdict, outcome (R262). -/
def finishCycle (a1 a2 : WriteAnswer) (rx : RxResult) (r : Resynced) : State :=
  let e := countCycle rx r.state.sync r.state.ses
  let v := initVerdict r.state.par e
  respond ⟨v.2, r.report.tags, initEvents a1 a2 r, none⟩ (r.state.setSes { e with phase := v.1 })

/-- `OP.INIT_STEP` (R262): one scheduler tick, one neutral command frame, one `RESYNC.RUN`, then the counters and the
verdict. Outside phase `INIT` it spells no step and is refused. -/
def execOpInitStep (s : State) : Host.Outcome State Fault Refusal :=
  if s.ses.phase = .init then
    let w1 := schedStep s
    let w2 := sendFrame .command neutralPayload w1.state
    match rxRead w2.state with
    | .error r => .refused r
    | .ok d => .next (finishCycle w1.answer w2.answer d.rx (resyncRun d.rx d.state))
  else .refused .initStepOutsideInit

/-! ## Command and poll -/

/-- One scheduler tick, then one command frame; both writes are attempted (R270, R286, R302). -/
def scheduleThenSend (k : TxKind) (payload : U16) (s : State) : State :=
  let w1 := schedStep s
  let w2 := sendFrame k payload w1.state
  respondStatus (writeStatus w1.answer w2.answer) w2.state

/-- `OP.COMMAND(value)` (R270). -/
def execOpCommand (value : ℚ) (s : State) : Host.Outcome State Fault Refusal :=
  .next (scheduleThenSend .command (commandPayload value) s)

/-- `OP.POLL` (R271): exactly one `RESYNC.RUN`. -/
def execOpPoll (s : State) : Host.Outcome State Fault Refusal :=
  match rxRead s with
  | .error r => .refused r
  | .ok d =>
    let r := resyncRun d.rx d.state
    .next (respondReport r.status r.report r.state)

/-! ## Configuration and fault -/

/-- Every field clamped to its documented safe range (R275, R27). -/
def clampConfig (a : ConfigValues) : ConfigValues where
  maxCurrent := clamp a.maxCurrent 0 60
  maxControllerTemp := clamp a.maxControllerTemp 30 80
  maxMotorTemp := clamp a.maxMotorTemp 30 80
  rudderMin := clamp a.rudderMin 0 1
  rudderMax := clamp a.rudderMax 0 1
  slewFast := clamp a.slewFast 0 100
  slewSlow := clamp a.slewSlow 0 100
  currentFactor := clamp a.currentFactor (8 / 10) (12 / 10)
  currentOffset := clamp a.currentOffset (-128) 127
  voltageFactor := clamp a.voltageFactor (8 / 10) (12 / 10)
  voltageOffset := clamp a.voltageOffset (-128) 127

/-- `OP.SET_CONFIGURATION` (R275). -/
def execOpSetConfiguration (a : ConfigValues) (s : State) : Host.Outcome State Fault Refusal :=
  .next (respondStatus .ok (s.setCfg ⟨clampConfig a, true⟩))

/-- `OP.FAULT` (R283). -/
def execOpFault (s : State) : Host.Outcome State Fault Refusal :=
  .next (respond ⟨.ok, 0, .none, some (overcurrent s.par s.ds.flags)⟩ s)

/-! ## Reset, disengage, reprogram -/

/-- `OP.RESET` (R285): a request to the device; no register of the link core changes. -/
def execOpReset (s : State) : Host.Outcome State Fault Refusal :=
  let w := sendFrame .reset s.par.resetPayload s
  .next (respondStatus (writeStatus w.answer .ok) w.state)

/-- `OP.DISENGAGE` (R286). -/
def execOpDisengage (s : State) : Host.Outcome State Fault Refusal :=
  .next (scheduleThenSend .disengage s.par.disengagePayload s)

/-- `OP.REPROGRAM` (R287). -/
def execOpReprogram (s : State) : Host.Outcome State Fault Refusal :=
  let w := sendFrame .reprogram s.par.reprogramPayload s
  .next (respondStatus (writeStatus w.answer .ok) w.state)

end Sys2Proof.Machine
end

