-- ==== Sys2Proof/Machine/Dispatch.lean ====
section
/-! DEFINITION. One arm per operation: each is one direct call of its meaning. -/

namespace Sys2Proof.Machine

def exec (i : Instr) (s : State) : Host.Outcome State Fault Refusal :=
  match i with
  | .txCommand payload => Sys2Proof.Machine.execTxCommand payload s
  | .txReset payload => Sys2Proof.Machine.execTxReset payload s
  | .txMaxCurrent payload => Sys2Proof.Machine.execTxMaxCurrent payload s
  | .txMaxControllerTemp payload => Sys2Proof.Machine.execTxMaxControllerTemp payload s
  | .txMaxMotorTemp payload => Sys2Proof.Machine.execTxMaxMotorTemp payload s
  | .txRudderRange payload => Sys2Proof.Machine.execTxRudderRange payload s
  | .txReprogram payload => Sys2Proof.Machine.execTxReprogram payload s
  | .txDisengage payload => Sys2Proof.Machine.execTxDisengage payload s
  | .txMaxSlew payload => Sys2Proof.Machine.execTxMaxSlew payload s
  | .txCurrentCalibration payload => Sys2Proof.Machine.execTxCurrentCalibration payload s
  | .txVoltageCalibration payload => Sys2Proof.Machine.execTxVoltageCalibration payload s
  | .rxCurrent payload => Sys2Proof.Machine.execRxCurrent payload s
  | .rxVoltage payload => Sys2Proof.Machine.execRxVoltage payload s
  | .rxControllerTemp payload => Sys2Proof.Machine.execRxControllerTemp payload s
  | .rxMotorTemp payload => Sys2Proof.Machine.execRxMotorTemp payload s
  | .rxRudder payload => Sys2Proof.Machine.execRxRudder payload s
  | .rxFlags payload => Sys2Proof.Machine.execRxFlags payload s
  | .rxMaxCurrent payload => Sys2Proof.Machine.execRxMaxCurrent payload s
  | .rxMaxControllerTemp payload => Sys2Proof.Machine.execRxMaxControllerTemp payload s
  | .rxMaxMotorTemp payload => Sys2Proof.Machine.execRxMaxMotorTemp payload s
  | .rxRudderRange payload => Sys2Proof.Machine.execRxRudderRange payload s
  | .rxMaxSlew payload => Sys2Proof.Machine.execRxMaxSlew payload s
  | .rxCurrentCalibration payload => Sys2Proof.Machine.execRxCurrentCalibration payload s
  | .rxVoltageCalibration payload => Sys2Proof.Machine.execRxVoltageCalibration payload s
  | .rxUnrecognized code payload => Sys2Proof.Machine.execRxUnrecognized code payload s
  | .opInitialize => Sys2Proof.Machine.execOpInitialize s
  | .opInitStep => Sys2Proof.Machine.execOpInitStep s
  | .opCommand value => Sys2Proof.Machine.execOpCommand value s
  | .opPoll => Sys2Proof.Machine.execOpPoll s
  | .opSetConfiguration args => Sys2Proof.Machine.execOpSetConfiguration args s
  | .opFault => Sys2Proof.Machine.execOpFault s
  | .opReset => Sys2Proof.Machine.execOpReset s
  | .opDisengage => Sys2Proof.Machine.execOpDisengage s
  | .opReprogram => Sys2Proof.Machine.execOpReprogram s

end Sys2Proof.Machine
end

