-- ==== Sys2Proof/Machine/Fetch.lean ====
section
/-! DEFINITION. Where the next operation comes from. The link core fetches no instructions (R30): the host's next call
stands on the request port, and wire frames run inside the host operations that send or receive them. -/

namespace Sys2Proof.Machine

/-- What stands to be done next. -/
inductive Fetched where
  /-- No call stands: nothing happens, all state survives (R309, R316). -/
  | idle
  | refused (r : Refusal)
  | run (i : Instr) (s : State)

/-- Take the next call from the port (R60, R118) and record that its operation begins (R74). Overlapping calls are
refused (R346), so is a request that spells nothing (R99, R270), so is a parameter set outside R8's constraints
(I15). -/
def fetch (s : State) : Fetched :=
  if s.par.wf then
    match s.port with
    | [] => .idle
    | .overlapping _ _ :: _ => .refused .overlappingOperations
    | .request r :: rest =>
      match decodeRequest r with
      | .error e => .refused (.undecodable e)
      | .ok i => .run i ((s.setPort rest).setHist (s.hist ++ [.began i]))
  else .refused .parameterSetRefused

/-! ## Staging one operation to run next (log 12) -/

/-- Put a request first on the port. -/
def stageRequest (r : Request) (s : State) : State := s.setPort (.request r :: s.port)

/-- Let the next poll, in sync and with an empty buffer, read exactly these bytes. -/
def stageReceived (bs : List Byte) (s : State) : State :=
  let rx : RxResult := match bs with
    | [] => .wouldBlock
    | b :: rest => .bytes b rest
  stageRequest ⟨3, []⟩
    (((s.setRx ⟨[]⟩).setSync { s.sync with inSyncCount := 1 }).setEnv { s.env with reads := rx :: s.env.reads })

/-- The first slot that carries an item (R230). -/
def slotOf (k : TxKind) : Nat := ((List.range Config.schedPeriod).find? fun n => scheduledItem n == some k).getD 1

/-- Configuration values whose item `k` packs to the payload `v`: the inverses of the packings of R232 to R238. -/
def configFor (k : TxKind) (v : U16) (c : ConfigValues) : ConfigValues :=
  let lo : ℚ := ((lo8 v).toNat : ℚ)
  let hi : ℚ := ((hi8 v).toNat : ℚ)
  match k with
  | .maxCurrent => { c with maxCurrent := (v.toNat : ℚ) / 100 }
  | .maxControllerTemp => { c with maxControllerTemp := (v.toNat : ℚ) / 100 }
  | .maxMotorTemp => { c with maxMotorTemp := (v.toNat : ℚ) / 100 }
  | .rudderRange => { c with rudderMin := lo / 255, rudderMax := hi / 255 }
  | .maxSlew => { c with slewFast := lo * 100 / 255, slewSlow := hi * 100 / 255 }
  | .currentCalibration =>
    { c with currentFactor := 8 / 10 + lo * (16 / 10000), currentOffset := (sext8 (hi8 v) : ℚ) }
  | .voltageCalibration =>
    { c with voltageFactor := 8 / 10 + lo * (16 / 10000), voltageOffset := (sext8 (hi8 v) : ℚ) }
  | _ => c

/-- Let a `DISENGAGE` serve the slot of item `k`, with the guard set and the item packing to `v`. -/
def stageScheduled (k : TxKind) (v : U16) (s : State) : State :=
  stageRequest ⟨7, []⟩
    ((s.setSync { s.sync with outSync := slotOf k }).setCfg ⟨configFor k v s.cfg.values, true⟩)

/-- The state whose next step runs the operation `i`: a host operation stands on the port; a received frame is what the
next `POLL` reads; an outbound frame is sent by the host operation that sends it; `INIT_STEP` spells a step only in phase
`INIT` (R262), so an initialization has been started. -/
def stageInstr (i : Instr) (s : State) : State :=
  match i with
  | .txCommand v => stageRequest ⟨2, [.rational ((v.toNat : ℚ) / 1000 - 1)]⟩ s
  | .txReset v => stageRequest ⟨6, []⟩ { s with par := { s.par with resetPayload := v } }
  | .txDisengage v => stageRequest ⟨7, []⟩ { s with par := { s.par with disengagePayload := v } }
  | .txReprogram v => stageRequest ⟨8, []⟩ { s with par := { s.par with reprogramPayload := v } }
  | .txMaxCurrent v => stageScheduled .maxCurrent v s
  | .txMaxControllerTemp v => stageScheduled .maxControllerTemp v s
  | .txMaxMotorTemp v => stageScheduled .maxMotorTemp v s
  | .txRudderRange v => stageScheduled .rudderRange v s
  | .txMaxSlew v => stageScheduled .maxSlew v s
  | .txCurrentCalibration v => stageScheduled .currentCalibration v s
  | .txVoltageCalibration v => stageScheduled .voltageCalibration v s
  | .opInitStep => stageRequest ⟨1, []⟩ (if s.ses.phase = .init then s else s.setSes .starting)
  | j =>
    match encode s.par.crcTable j with
    | .request r => stageRequest r s
    | .wire _ bs => stageReceived bs s

/-- The state whose next step runs the operation a table word spells; a word that spells none stands as a request that
`step` refuses. -/
def stageTableWord (nbits w : Nat) (s : State) : State :=
  match decodeTableWord nbits w with
  | some i => stageInstr i s
  | none => stageRequest ⟨BitVec.ofNat 4 w, []⟩ s

end Sys2Proof.Machine
end

