-- ==== Sys2Proof/Machine/Step.lean ====
section
/-! DEFINITION. One step of the machine: one whole host operation (R16), or nothing when no call stands (R309). -/

namespace Sys2Proof.Machine

/-- One step. -/
def step (s : State) : Host.Outcome State Fault Refusal :=
  match fetch s with
  | .idle => .next s
  | .refused r => .refused r
  | .run i t => exec i t

/-- `s` with the operation of a table word staged so that the next step runs it (log 12, 13). -/
def State.withFetchWord (s : State) (nbits w : Nat) : State := stageTableWord nbits w s

end Sys2Proof.Machine
end

