-- ==== Sys2Proof/Machine/Pseudo.lean ====
section
/-! DEFINITION. The pseudo-operations of R120, each by its expansion into host operations. -/

namespace Sys2Proof.Machine

/-- `NEUTRAL` is `COMMAND 0` (R120). -/
def neutral : Instr := .opCommand 0

/-- `TICK v` is `COMMAND v` followed by `POLL` (R120, R272). -/
def tick (v : ℚ) : List Instr := [.opCommand v, .opPoll]

/-- Operations one after another, stopping at the first that does not answer a next state. -/
def execSeq : List Instr → State → Host.Outcome State Fault Refusal
  | [], s => .next s
  | i :: rest, s =>
    match exec i s with
    | .next t => execSeq rest t
    | .fault r => .fault r
    | .refused r => .refused r

/-- The status of the outcome a state holds. -/
def lastStatus (s : State) : Option Status := s.response.map (·.status)

/-- `INIT_STEP` repeated until its outcome is not `IN_PROGRESS`, at most `fuel` times (R263). -/
def initSteps : Nat → State → Host.Outcome State Fault Refusal
  | 0, s => .next s
  | fuel + 1, s =>
    match exec .opInitStep s with
    | .next t => if lastStatus t = some .inProgress then initSteps fuel t else .next t
    | .fault r => .fault r
    | .refused r => .refused r

/-- The source's blocking `initialize()` (R120, R263): `INITIALIZE`, then cycles until the verdict; `INIT_SYNC_BUDGET`
cycles are enough. -/
def blockingInit (s : State) : Host.Outcome State Fault Refusal :=
  match exec .opInitialize s with
  | .next t => initSteps t.par.initSyncBudget t
  | .fault r => .fault r
  | .refused r => .refused r

end Sys2Proof.Machine
end

