-- ==== Sys2Proof/Machine/Views.lean ====
section
/-! DEFINITION. The scaled values the host sees, as functions of the raw Device Status registers (R25). -/

namespace Sys2Proof.Machine

/-- The rudder position: `UNDEFINED` or a rational (R12, R205). -/
inductive RudderValue where
  | undefined
  | fraction (q : ℚ)
deriving DecidableEq, Repr

/-- "value / 100.0", unsigned (R25). -/
def hundredths (p : U16) : ℚ := (zext p : ℚ) / 100

/-- "value / 100.0" after the signed 16-bit reading (R25). -/
def signedHundredths (p : U16) : ℚ := (sext16 p : ℚ) / 100

/-- "byte / 255.0" (R25). -/
def byteFraction (b : Byte) : ℚ := (zext b : ℚ) / 255

/-- A slew percentage: "scaled by 100/255 and rounded" (R25, R211). -/
def slewPercent (b : Byte) : Int := roundStated ((zext b : ℚ) * 100 / 255)

/-- A calibration factor: "0.8 + low_byte * 0.0016" (R25, R212). -/
def calibrationFactor (b : Byte) : ℚ := 8 / 10 + (zext b : ℚ) * (16 / 10000)

def viewCurrent (d : DeviceStatus) : ℚ := hundredths d.currentRaw
def viewVoltage (d : DeviceStatus) : ℚ := hundredths d.voltageRaw
def viewControllerTemp (d : DeviceStatus) : ℚ := signedHundredths d.controllerTempRaw
def viewMotorTemp (d : DeviceStatus) : ℚ := signedHundredths d.motorTempRaw

/-- The rudder position with its sentinel (R205). -/
def viewRudder (d : DeviceStatus) : RudderValue :=
  if d.rudderRaw = 0xFFFF then .undefined else .fraction ((zext d.rudderRaw : ℚ) / 65472)

def viewMaxCurrent (d : DeviceStatus) : ℚ := hundredths d.maxCurrentRaw
def viewMaxControllerTemp (d : DeviceStatus) : ℚ := hundredths d.maxControllerTempRaw
def viewMaxMotorTemp (d : DeviceStatus) : ℚ := hundredths d.maxMotorTempRaw
def viewRudderMin (d : DeviceStatus) : ℚ := byteFraction (lo8 d.rudderRangeRaw)
def viewRudderMax (d : DeviceStatus) : ℚ := byteFraction (hi8 d.rudderRangeRaw)
def viewSlewFast (d : DeviceStatus) : Int := slewPercent (lo8 d.maxSlewRaw)
def viewSlewSlow (d : DeviceStatus) : Int := slewPercent (hi8 d.maxSlewRaw)
def viewCurrentFactor (d : DeviceStatus) : ℚ := calibrationFactor (lo8 d.currentCalRaw)
def viewCurrentOffset (d : DeviceStatus) : Int := sext8 (hi8 d.currentCalRaw)
def viewVoltageFactor (d : DeviceStatus) : ℚ := calibrationFactor (lo8 d.voltageCalRaw)
def viewVoltageOffset (d : DeviceStatus) : Int := sext8 (hi8 d.voltageCalRaw)

end Sys2Proof.Machine
end

