-- ==== Sys2Proof/Safety.lean ====
section
/-! DEFINITION. What counts as a sound state of the link core (R35, R29), and what its event history says was offered to
the device (R74), in the terms the statements use. -/

namespace Sys2Proof.Machine

/-- A rational in a closed range. -/
abbrev Between (lo x hi : ℚ) : Prop := lo ≤ x ∧ x ≤ hi

/-- The ranges of the Configuration Set registers (R27). -/
abbrev ConfigInRange (c : ConfigValues) : Prop :=
  Between 0 c.maxCurrent 60 ∧ Between 30 c.maxControllerTemp 80 ∧ Between 30 c.maxMotorTemp 80 ∧
  Between 0 c.rudderMin 1 ∧ Between 0 c.rudderMax 1 ∧ Between 0 c.slewFast 100 ∧ Between 0 c.slewSlow 100 ∧
  Between (8 / 10) c.currentFactor (12 / 10) ∧ Between (-128) c.currentOffset 127 ∧
  Between (8 / 10) c.voltageFactor (12 / 10) ∧ Between (-128) c.voltageOffset 127

/-- The register ranges between host operations (R35). -/
abbrev RegistersInRange (s : State) : Prop :=
  s.rx.buf.length ≤ 3 ∧ s.sync.outSync ≤ 22 ∧ s.sync.inSyncCount ≤ 1 ∧
  (s.cfg.paramsSet = true → ConfigInRange s.cfg.values)

/-- The ranges of the session counters (R29), and what each phase says about them (R261, R262). -/
abbrev SessionConsistent (p : Params) (e : Session) : Prop :=
  e.initCycles ≤ p.initSyncBudget ∧ e.initStreak ≤ Config.initSustain ∧ e.initStreak ≤ e.initCycles ∧
  (e.phase = .init → e.initStreak < Config.initSustain ∧ e.initCycles < p.initSyncBudget ∧
    (e.initDataSeen = false → e.initCycles < p.initNoResponseBudget)) ∧
  (e.phase = .ready → e.initStreak = Config.initSustain) ∧
  (e.phase = .failedNoResponse → e.initDataSeen = false) ∧
  (e.phase = .failedSync → e.initCycles = p.initSyncBudget)

/-- The invariant of the machine between host operations. -/
abbrev Inv (s : State) : Prop :=
  s.par.wf = true ∧ RegistersInRange s ∧ SessionConsistent s.par s.ses

/-- The frames a history says were offered to the transmit stream, oldest first, with their answers (R74). -/
def offers : List IoEvent → List (Quad × WriteAnswer)
  | [] => []
  | .write f a :: rest => (f, a) :: offers rest
  | .began _ :: rest => offers rest
  | .read _ _ :: rest => offers rest

/-- The codes of the offered frames, oldest first. -/
def offeredCodes (h : List IoEvent) : List Byte := (offers h).map fun o => o.1.b0

/-- The events two histories differ by, when the second extends the first. -/
def newEvents (s t : State) : List IoEvent := t.hist.drop s.hist.length

/-- A safe step: the machine answers a next state. -/
def StepsSafely (s : State) : Prop := ∃ t, step s = .next t

end Sys2Proof.Machine
end

