-- ==== Sys2Proof/Certificates/Slice0/Obligations.lean ====
section
/-! DEFINITION. The statements for the provers. Each docstring names the rules of spec/ it formalises, or the sections it
rests on and the decision or log entry that makes it the model's choice. Helper predicates stand first. -/

open Sys2Proof Sys2Proof.Machine

namespace Sys2Proof.Claims

/-- An accepted inbound frame leaves everything but Device Status and the returned outcome. -/
def KeepsAllButStatus (s t : State) : Prop :=
  t.par = s.par ∧ t.rx = s.rx ∧ t.sync = s.sync ∧ t.cfg = s.cfg ∧ t.ses = s.ses ∧ t.env = s.env ∧
  t.port = s.port ∧ t.hist = s.hist

/-- A frame with this code and a right fourth byte is the inbound operation `i` with its payload, for every table; and
`i` answers a next state in which register `t` holds the payload, every other Device Status register and the rest of the
state are unchanged, the outcome is `OK` with the one tag and no event, and the scaled value is as `view` says. -/
def Stores (i : U16 → Instr) (code : Byte) (t : Tag) (view : U16 → DeviceStatus → Prop) : Prop :=
  (∀ (tbl : Vector Byte 256) (v : U16), decode tbl (.wire .inbound (frameEncode tbl code v).bytes) = .ok (i v)) ∧
  ∀ (v : U16) (s : State), ∃ s', exec (i v) s = .next s' ∧
    s'.ds.get t = v ∧ (∀ u, u ≠ t → s'.ds.get u = s.ds.get u) ∧ view v s'.ds ∧
    s'.response = some ⟨.ok, 1#13 <<< tagNumber t, ⟨false, false, false, false⟩, none⟩ ∧
    KeepsAllButStatus s s'

/-- What offering frames leaves: every register group and the calls and reads still to come. -/
def KeepsRegisters (s t : State) : Prop :=
  t.par = s.par ∧ t.rx = s.rx ∧ t.sync = s.sync ∧ t.ds = s.ds ∧ t.cfg = s.cfg ∧ t.ses = s.ses ∧
  t.env.reads = s.env.reads ∧ t.port = s.port

/-- The status after one write. -/
def answered (a : WriteAnswer) : Status := match a with
  | .ok => .ok
  | .error => .ioWriteError

/-- The operation answers a next state in which exactly the frame `f` has been offered once, its answer consumed and
reported, and every register kept. -/
def OffersOnly (i : Instr) (s : State) (f : Quad) : Prop :=
  ∃ s', exec i s = .next s' ∧ s'.hist = s.hist ++ [.write f (nextWrite s.env)] ∧
    s'.env.writes = s.env.writes.tail ∧
    s'.response = some ⟨answered (nextWrite s.env), 0, ⟨false, false, false, false⟩, none⟩ ∧ KeepsRegisters s s'

/-- The outbound operation `i` is the frame with this code, and offers it, whatever the payload and the table. -/
def OffersFrame (i : U16 → Instr) (code : Byte) : Prop :=
  (∀ (tbl : Vector Byte 256) (v : U16), decode tbl (.wire .outbound (frameEncode tbl code v).bytes) = .ok (i v)) ∧
  ∀ (v : U16) (s : State), OffersOnly (i v) s (frameEncode s.par.crcTable code v)

/-- The operation answers a next state: one scheduler tick, then the frame with this code and payload is offered; the
status is `IO_WRITE_ERROR` exactly if one of the two writes answered `error`; every register but `SYNC.out_sync`
is kept. -/
def TicksThenSends (i : Instr) (s : State) (code : Byte) (v : U16) : Prop :=
  ∃ s', exec i s = .next s' ∧
    s'.hist = (schedStep s).state.hist
      ++ [.write (frameEncode s.par.crcTable code v) (nextWrite (schedStep s).state.env)] ∧
    s'.sync = { s.sync with outSync := (s.sync.outSync + 1) % 23 } ∧
    s'.env.writes = (schedStep s).state.env.writes.tail ∧ s'.env.reads = s.env.reads ∧
    s'.response = some ⟨if (schedStep s).answer = .error ∨ nextWrite (schedStep s).state.env = .error
      then .ioWriteError else .ok, 0, ⟨false, false, false, false⟩, none⟩ ∧
    s'.par = s.par ∧ s'.rx = s.rx ∧ s'.ds = s.ds ∧ s'.cfg = s.cfg ∧ s'.ses = s.ses ∧ s'.port = s.port

/-- `s` after its next read answer has been consumed and recorded. -/
def afterRead (s : State) : State :=
  (s.setEnv { s.env with reads := s.env.reads.tail }).setHist
    (s.hist ++ [.read (s.par.rxCapacity - s.rx.buf.length) (nextRead s.env)])

/-- The next read answers no more bytes than the room asked for (R61). -/
def ReadFits (s : State) : Prop := (rxBytes (nextRead s.env)).length ≤ s.par.rxCapacity - s.rx.buf.length

/-- The drain of `s` goes on as the turn `d` on its window left it: with the state of `d`, adding to what `d`
reported. -/
def DrainGoesOn (s : State) (d : Drained) : Prop :=
  (resyncDrain s).state = (resyncDrain d.state).state ∧
  (resyncDrain s).report = d.report.union (resyncDrain d.state).report

/-- The seven configuration items. -/
def parameterKinds : List TxKind :=
  [.maxCurrent, .maxControllerTemp, .maxMotorTemp, .rudderRange, .maxSlew, .currentCalibration, .voltageCalibration]

/-- The state `t` is one in which an initialization under the parameters `p` has ended: after 1 to `INIT_SYNC_BUDGET`
cycles, with one of the three verdicts, success after no fewer than 20 cycles. -/
def HasVerdict (p : Params) (t : State) : Prop :=
  1 ≤ t.ses.initCycles ∧ t.ses.initCycles ≤ p.initSyncBudget ∧
  ((t.ses.phase = .ready ∧ lastStatus t = some .ok ∧ 20 ≤ t.ses.initCycles) ∨
   (t.ses.phase = .failedNoResponse ∧ lastStatus t = some .noResponse ∧ t.ses.initDataSeen = false) ∨
   (t.ses.phase = .failedSync ∧ lastStatus t = some .syncFailure))

/-- `n` scheduler ticks. -/
def ticks : Nat → State → State
  | 0, s => s
  | n + 1, s => ticks n (schedStep s).state

end Sys2Proof.Claims

open Sys2Proof.Claims

/-! ## Reset and the step -/

/-- The model's choice of every register after session construction (log 17): the table of 10_state.md section 9. -/
def Obligations.ConstructionLeavesTabledRegisters : Prop :=
  ∀ p : Params, ∃ s, s = State.resetWith p ∧ s.par = p ∧ s.rx.buf = [] ∧ s.sync.inSyncCount = 0 ∧ s.sync.outSync = 0 ∧
    (∀ t, s.ds.get t = if t = .rudder then 0xFFFF else 0x0000) ∧ viewRudder s.ds = .undefined ∧
    s.cfg.paramsSet = false ∧ s.cfg.values = ⟨0, 0, 0, 0, 0, 0, 0, 0, 0, 0, 0⟩ ∧
    s.ses = ⟨.idle, 0, false, 0⟩ ∧ s.hist = []

/-- A session constructed under a parameter set that R8 admits meets the invariant; `State.reset` is one. -/
def Obligations.ConstructionMeetsRegisterInvariant : Prop :=
  (∀ p : Params, p.wf = true → Inv (State.resetWith p)) ∧ Inv State.reset

/-- The invariant of 10_state.md section 10 (`RX.len <= 3`, the two counters in range, a set configuration in range)
and of section 6 (the session counters in range) is kept by every step, from every state that meets it. -/
def Obligations.EveryStepKeepsRegisterInvariant : Prop :=
  ∀ s s' : State, Inv s → step s = .next s' → Inv s'

/-- When the request on the port decodes to an operation, the step is that operation's meaning, on the state with the
call taken from the port and the beginning of the operation recorded. -/
def Obligations.StepRunsStandingRequest : Prop :=
  ∀ (s : State) (r : Request) (rest : List Call) (i : Instr),
    s.par.wf = true → s.port = .request r :: rest → decode s.par.crcTable (.request r) = .ok i →
    step s = exec i ((s.setPort rest).setHist (s.hist ++ [.began i]))

/-- Without a call nothing happens and all state survives; overlapping calls are refused, and so is a parameter set
outside its constraints (log 11, 27). Every request that decodes to no operation is refused under the reason the decoder
gives (log 29): a selector of 9 to 15, a number of arguments that is not the operation's (none, but one for `COMMAND` and
eleven for `SET_CONFIGURATION`), and any argument that is not a number. -/
def Obligations.StepIdlesOrRefusesByName : Prop :=
  (∀ s : State, s.par.wf = true → s.port = [] → step s = .next s) ∧
  (∀ (s : State) (a b : Request) (rest : List Call), s.par.wf = true → s.port = .overlapping a b :: rest →
    step s = .refused .overlappingOperations) ∧
  (∀ s : State, s.par.wf = false → step s = .refused .parameterSetRefused) ∧
  (∀ (s : State) (r : Request) (rest : List Call) (e : DecodeError), s.par.wf = true → s.port = .request r :: rest →
    decodeRequest r = .error e → step s = .refused (.undecodable e)) ∧
  (List.range 9).map (fun n => argumentCount (BitVec.ofNat 4 n))
    = [some 0, some 0, some 1, some 0, some 11, some 0, some 0, some 0, some 0] ∧
  (∀ (o : BitVec 4) (as : List Arg), 9 ≤ o.toNat → decodeRequest ⟨o, as⟩ = .error (.noSuchOperation o)) ∧
  (∀ (o : BitVec 4) (as : List Arg) (n : Nat), argumentCount o = some n → as.length ≠ n →
    decodeRequest ⟨o, as⟩ = .error (.wrongArgumentCount o)) ∧
  (∀ (o : BitVec 4) (as : List Arg), argumentCount o = some as.length → .notANumber ∈ as →
    decodeRequest ⟨o, as⟩ = .error (.argumentNotANumber o))

/-- A poll that reads exactly one valid frame into an empty buffer, in sync, runs the inbound operation the frame
decodes to: this is how the inbound rows reach a run. -/
def Obligations.PollRunsTheReceivedFrame : Prop :=
  ∀ (s : State) (rest : List RxResult) (code b1 b2 b3 : Byte) (i : Instr),
    5 ≤ s.par.rxCapacity → s.rx.buf = [] → 1 ≤ s.sync.inSyncCount →
    s.env.reads = .bytes code [b1, b2, b3] :: rest →
    decode s.par.crcTable (.wire .inbound [code, b1, b2, b3]) = .ok i →
    exec .opPoll s = exec i (afterRead s)

/-- A scheduler tick whose slot carries an item, with the guard set, runs the outbound operation of that item with the
packed payload, and then advances the counter: this is how the parameter rows reach a run. -/
def Obligations.TickRunsTheScheduledFrame : Prop :=
  ∀ (s : State) (k : TxKind), s.cfg.paramsSet = true → scheduledItem s.sync.outSync = some k →
    ∃ u, exec (txInstr k (ownPayload s.par s.cfg.values k)) s = .next u ∧
      (schedStep s).state
        = (u.setSync { s.sync with outSync := (s.sync.outSync + 1) % 23 }).setResponse s.response ∧
      u.response = some ⟨answered (schedStep s).answer, 0, ⟨false, false, false, false⟩, none⟩

/-! ## CRC8 engine and frame codec -/

/-- R131 and R132, for every table. -/
def Obligations.CrcBlockFoldsTheTable : Prop :=
  ∀ tbl : Vector Byte 256,
    (∀ c b : Byte, crc8Byte tbl c b = tbl[(c ^^^ b).toNat]'(c ^^^ b).isLt) ∧
    crc8Block tbl [] = 0xFF ∧
    (∀ (bs : List Byte) (b : Byte), crc8Block tbl (bs ++ [b]) = crc8Byte tbl (crc8Block tbl bs) b)

/-- R150, for every table, code and value. -/
def Obligations.FrameEncodeLaysOutFourBytes : Prop :=
  ∀ (tbl : Vector Byte 256) (code : Byte) (value : U16),
    (frameEncode tbl code value).bytes
      = [code, BitVec.ofNat 8 value.toNat, BitVec.ofNat 8 (value.toNat / 256),
         crc8Block tbl [code, BitVec.ofNat 8 value.toNat, BitVec.ofNat 8 (value.toNat / 256)]]

/-- R151 and the condition of R92. -/
def Obligations.FrameDecodeTestsTheFourthByte : Prop :=
  ∀ (tbl : Vector Byte 256) (q : Quad),
    (q.b3 = crc8Block tbl [q.b0, q.b1, q.b2] →
      ∃ f, frameDecode tbl q = some f ∧ f.code = q.b0 ∧ f.payload.toNat = q.b2.toNat * 256 + q.b1.toNat) ∧
    (q.b3 ≠ crc8Block tbl [q.b0, q.b1, q.b2] → frameDecode tbl q = none)

/-- 41_frame_codec.md, round trip in both directions, for every table: decoding answers a frame exactly on the four
bytes that encoding that frame yields. -/
def Obligations.FrameDecodeInvertsEncode : Prop :=
  ∀ (tbl : Vector Byte 256) (q : Quad) (f : Frame),
    frameDecode tbl q = some f ↔ q = frameEncode tbl f.code f.payload

/-- 41_frame_codec.md, corruption: for any three bytes exactly one fourth byte passes, so a change confined to the
fourth byte of a valid frame is rejected, for every table. -/
def Obligations.ExactlyOneFourthByteIsValid : Prop :=
  ∀ (tbl : Vector Byte 256) (b0 b1 b2 : Byte), ∃! b3, validFrame tbl ⟨b0, b1, b2, b3⟩ = true

/-- 30_encoding.md section 1: the frame word holds byte `k` of the stream at bits `8k+7 .. 8k`, so the payload is one
slice of it. -/
def Obligations.FrameWordHoldsTheFields : Prop :=
  ∀ q : Quad, quadOfWord (frameWord q) = q ∧
    (frameWord q).toNat = q.b0.toNat + q.b1.toNat * 2 ^ 8 + q.b2.toNat * 2 ^ 16 + q.b3.toNat * 2 ^ 24 ∧
    (frameWord q).extractLsb' 8 16 = cat16 q.b2 q.b1

/-- 40_crc8.md sections 3 and 4, of the default table alone (log 2: no fact about the device): it is generated by the
bit-serial rule, is a permutation, and is linear over exclusive or. -/
def Obligations.DefaultTableIsBitSerialLinearPermutation : Prop :=
  (∀ i : Byte, crc8Entry crc8DefaultTable i = crc8TableEntry i) ∧
  (∀ v : Byte, ∃! i, crc8Entry crc8DefaultTable i = v) ∧
  (∀ a b : Byte, crc8Entry crc8DefaultTable (a ^^^ b)
    = crc8Entry crc8DefaultTable a ^^^ crc8Entry crc8DefaultTable b)

/-- 40_crc8.md section 4, under the premise that the table is the default one: flipping any one of the 32 bits of a
valid frame makes it invalid. -/
def Obligations.DefaultTableRejectsEverySingleBitFlip : Prop :=
  ∀ (q : Quad) (k : Nat), validFrame crc8DefaultTable q = true → k < 32 →
    validFrame crc8DefaultTable (quadOfWord (frameWord q ^^^ (1#32 <<< k))) = false

/-! ## Encoding -/

/-- Decoding and encoding agree on every operation, for every table: an encoding decodes to `i` exactly when `i` is
well formed and the encoding is the one `encode` writes, so no bit of an encoding is dropped. -/
def Obligations.DecodeAnswersExactlyTheEncodedOperation : Prop :=
  ∀ (tbl : Vector Byte 256) (e : Encoding) (i : Instr),
    decode tbl e = .ok i ↔ i.wellFormed = true ∧ e = encode tbl i

/-- A few words of 95_test_vectors.md, under the default table: they decode to the operations they stand for. -/
def Obligations.VectorWordsDecode : Prop :=
  decode crc8DefaultTable (.wire .outbound [0xC7, 0xD0, 0x07, 0xDC]) = .ok (.txCommand 2000) ∧
  decode crc8DefaultTable (.wire .outbound [0x4E, 0x9C, 0xFE, 0x2A]) = .ok (.txVoltageCalibration 0xFE9C) ∧
  decode crc8DefaultTable (.wire .inbound [0x1C, 0x64, 0x00, 0x42]) = .ok (.rxCurrent 100) ∧
  decode crc8DefaultTable (.wire .inbound [0x55, 0x34, 0x12, 0x62]) = .ok (.rxUnrecognized 0x55 0x1234) ∧
  decode crc8DefaultTable (.request ⟨3, []⟩) = .ok .opPoll

/-- 30_encoding.md sections 3 and 4: the thirteen inbound codes, the 243 unrecognised ones, and the four outbound-only
codes among the latter (the model follows decision D31 there). -/
def Obligations.InboundCodesAreTheThirteen : Prop :=
  allTags.map rxCode = [0x1C, 0xB3, 0xF9, 0x48, 0xA7, 0x8F, 0x1E, 0xA4, 0x5A, 0xB6, 0x71, 0xDB, 0x4E] ∧
  (∀ (c : Byte) (t : Tag), tagOfCode c = some t ↔ c = rxCode t) ∧
  ((List.range 256).filter fun n => (tagOfCode (BitVec.ofNat 8 n)).isNone).length = 243 ∧
  (∀ c ∈ [(0xC7 : Byte), 0xE7, 0x19, 0x68], ∀ v : U16, selectRx c v = .rxUnrecognized c v)

/-! ## Telemetry decoder -/

/-- R201 to R205: the five measured values. -/
def Obligations.MeasuredValueFramesAreStored : Prop :=
  Stores .rxCurrent 0x1C .current (fun v d => viewCurrent d = (v.toNat : ℚ) / 100) ∧
  Stores .rxVoltage 0xB3 .voltage (fun v d => viewVoltage d = (v.toNat : ℚ) / 100) ∧
  Stores .rxControllerTemp 0xF9 .controllerTemp (fun v d => viewControllerTemp d = (v.toInt : ℚ) / 100) ∧
  Stores .rxMotorTemp 0x48 .motorTemp (fun v d => viewMotorTemp d = (v.toInt : ℚ) / 100) ∧
  Stores .rxRudder 0xA7 .rudder (fun v d =>
    viewRudder d = if v = 0xFFFF then .undefined else .fraction ((v.toNat : ℚ) / 65472))

/-- 43_telemetry_decoder.md section 3: a flags frame replaces all sixteen bits, and the invalid-packet bit raises the
warning for every such frame (the model follows decision D35). -/
def Obligations.FlagsFrameReplacesTheBitfield : Prop :=
  ∀ (v : U16) (s : State), ∃ s', exec (.rxFlags v) s = .next s' ∧
    s'.ds.flags = v ∧ (∀ u, u ≠ .flags → s'.ds.get u = s.ds.get u) ∧
    s'.response = some ⟨.ok, 1#13 <<< 5,
      ⟨false, false, false, decide (v &&& s.par.invalidPacketMask ≠ 0)⟩, none⟩ ∧
    KeepsAllButStatus s s'

/-- 43_telemetry_decoder.md section 4, the three limits, read unsigned (the model follows decisions D25 and D28). -/
def Obligations.LimitEchoesAreStored : Prop :=
  Stores .rxMaxCurrent 0x1E .maxCurrent (fun v d => viewMaxCurrent d = (v.toNat : ℚ) / 100) ∧
  Stores .rxMaxControllerTemp 0xA4 .maxControllerTemp (fun v d => viewMaxControllerTemp d = (v.toNat : ℚ) / 100) ∧
  Stores .rxMaxMotorTemp 0x5A .maxMotorTemp (fun v d => viewMaxMotorTemp d = (v.toNat : ℚ) / 100)

/-- R210 to R213: rudder range, slew limits (rounded to the nearest percent: no tie occurs) and the two
calibrations. -/
def Obligations.RangeAndCalibrationEchoesAreStored : Prop :=
  Stores .rxRudderRange 0xB6 .rudderRange (fun v d =>
    viewRudderMin d = ((v.toNat % 256 : Nat) : ℚ) / 255 ∧ viewRudderMax d = ((v.toNat / 256 : Nat) : ℚ) / 255) ∧
  Stores .rxMaxSlew 0x71 .maxSlew (fun v d =>
    viewSlewFast d = ⌊((v.toNat % 256 : Nat) : ℚ) * 100 / 255 + 1 / 2⌋ ∧
    viewSlewSlow d = ⌊((v.toNat / 256 : Nat) : ℚ) * 100 / 255 + 1 / 2⌋) ∧
  Stores .rxCurrentCalibration 0xDB .currentCalibration (fun v d =>
    viewCurrentFactor d = 8 / 10 + ((v.toNat % 256 : Nat) : ℚ) * 16 / 10000 ∧
    viewCurrentOffset d = (BitVec.ofNat 8 (v.toNat / 256)).toInt) ∧
  Stores .rxVoltageCalibration 0x4E .voltageCalibration (fun v d =>
    viewVoltageFactor d = 8 / 10 + ((v.toNat % 256 : Nat) : ℚ) * 16 / 10000 ∧
    viewVoltageOffset d = (BitVec.ofNat 8 (v.toNat / 256)).toInt)

/-- R214: the operation of every valid frame whose code is none of the thirteen: writes nothing, returns no tag, raises nothing; inside a drain the frame has still been consumed, and a first
valid frame with an unrecognised code still sets the count to 1. -/
def Obligations.UnrecognizedFrameIsIgnored : Prop :=
  (∀ (tbl : Vector Byte 256) (c : Byte) (v : U16), tagOfCode c = none →
    decode tbl (.wire .inbound (frameEncode tbl c v).bytes) = .ok (.rxUnrecognized c v)) ∧
  (∀ (c : Byte) (v : U16) (s : State), ∃ s', exec (.rxUnrecognized c v) s = .next s' ∧ s'.ds = s.ds ∧
    s'.response = some ⟨.ok, 0, ⟨false, false, false, false⟩, none⟩ ∧ KeepsAllButStatus s s') ∧
  (∀ (s : State) (q : Quad) (rest : List Byte), s.rx.buf = q.bytes ++ rest →
    validFrame s.par.crcTable q = true → tagOfCode q.b0 = none → s.sync.inSyncCount ≤ 1 →
    (resyncTurn q s).state = (s.setRx ⟨rest⟩).setSync { s.sync with inSyncCount := 1 } ∧
    (resyncTurn q s).report = .empty)

/-- 43_telemetry_decoder.md sections 1 and 5: for every code and payload the decoder writes the payload to the register
of that code, if it has one, and to no other; it returns that one tag, and the one warning only for a flags frame. -/
def Obligations.DecoderWritesOnlyTheRegisterOfTheCode : Prop :=
  ∀ (p : Params) (c : Byte) (v : U16) (d : DeviceStatus),
    (∀ t, (telemDecode p c v d).ds.get t = if c = rxCode t then v else d.get t) ∧
    (∀ t, tagMember (telemDecode p c v d).report.tags t = decide (c = rxCode t)) ∧
    (telemDecode p c v d).report.events
      = ⟨false, false, false, decide (c = 0x8F ∧ v &&& p.invalidPacketMask ≠ 0)⟩

/-! ## Receive resynchronizer -/

/-- R174: the matching branch, and what the drain makes of it. -/
def Obligations.MatchingWindowIsDiscardedThenDecoded : Prop :=
  ∀ (s : State) (q : Quad) (rest : List Byte), s.rx.buf = q.bytes ++ rest → validFrame s.par.crcTable q = true →
    (s.sync.inSyncCount = 0 →
      resyncTurn q s = ⟨(s.setRx ⟨rest⟩).setSync { s.sync with inSyncCount := 1 }, .empty⟩) ∧
    (1 ≤ s.sync.inSyncCount →
      resyncTurn q s = ⟨(s.setRx ⟨rest⟩).setDs (telemDecode s.par q.b0 (cat16 q.b2 q.b1) s.ds).ds,
        (telemDecode s.par q.b0 (cat16 q.b2 q.b1) s.ds).report⟩) ∧
    DrainGoesOn s (resyncTurn q s)

/-- R175: the mismatching branch; the drain retries from what is left. -/
def Obligations.MismatchingWindowDropsOneByte : Prop :=
  ∀ (s : State) (q : Quad) (rest : List Byte), s.rx.buf = q.bytes ++ rest →
    q.b3 ≠ crc8Block s.par.crcTable [q.b0, q.b1, q.b2] →
    resyncTurn q s = ⟨(s.setRx ⟨q.b1 :: q.b2 :: q.b3 :: rest⟩).setSync { s.sync with inSyncCount := 0 }, .empty⟩ ∧
    DrainGoesOn s (resyncTurn q s)

/-- R271: a poll whose read keeps to the room is exactly one run of the resynchronizer on that read, and sends nothing;
what it does not hand to the resynchronizer's registers is kept. On an ordinary read (no error, and the buffer not filled)
that run is the drain of the bytes left over followed by the bytes read. -/
def Obligations.PollIsOneResynchronizerRun : Prop :=
  decodeRequest ⟨3, []⟩ = .ok .opPoll ∧
  ∀ s : State, ReadFits s → ∃ s', exec .opPoll s = .next s' ∧
    s'.rx = (resyncRun (nextRead s.env) (afterRead s)).state.rx ∧
    s'.sync = (resyncRun (nextRead s.env) (afterRead s)).state.sync ∧
    s'.ds = (resyncRun (nextRead s.env) (afterRead s)).state.ds ∧
    s'.response = some ⟨(resyncRun (nextRead s.env) (afterRead s)).status,
      (resyncRun (nextRead s.env) (afterRead s)).report.tags,
      (resyncRun (nextRead s.env) (afterRead s)).report.events, none⟩ ∧
    (resyncRun (nextRead s.env) (afterRead s)).status ∈ [Status.ok, .ioReadError] ∧
    (resyncRun (nextRead s.env) (afterRead s)).report.events.ioReadError = false ∧
    (resyncRun (nextRead s.env) (afterRead s)).report.events.ioWriteError = false ∧
    s'.hist = s.hist ++ [.read (s.par.rxCapacity - s.rx.buf.length) (nextRead s.env)] ∧
    offers s'.hist = offers s.hist ∧
    s'.sync.outSync = s.sync.outSync ∧ s'.par = s.par ∧ s'.cfg = s.cfg ∧ s'.ses = s.ses ∧ s'.port = s.port ∧
    s'.env = { s.env with reads := s.env.reads.tail } ∧
    (∀ d : Drained, d = resyncDrain ((afterRead s).setRx ⟨s.rx.buf ++ rxBytes (nextRead s.env)⟩) →
      nextRead s.env ≠ .error → s.rx.buf.length + (rxBytes (nextRead s.env)).length ≠ s.par.rxCapacity →
      s'.rx = d.state.rx ∧ s'.sync = d.state.sync ∧ s'.ds = d.state.ds ∧
      s'.response = some ⟨.ok, d.report.tags, d.report.events, none⟩)

/-- 42_resynchronizer.md section 1: the three ways of a run, from every state and so in both operations that make one. A
failed read changes nothing and reports the error; a read that fills the buffer empties it and reports the overflow alone;
any other read is appended behind the bytes left over, and the whole is drained (the model follows decisions D4 and
D20). -/
def Obligations.RunFailsFlushesOrDrainsAllBytes : Prop :=
  ∀ (rx : RxResult) (s : State),
    (rx = .error → resyncRun rx s = ⟨.ioReadError, .empty, s⟩) ∧
    (rx ≠ .error → s.rx.buf.length + (rxBytes rx).length = s.par.rxCapacity →
      resyncRun rx s = ⟨.ok, ⟨0, ⟨false, false, true, false⟩⟩, s.setRx ⟨[]⟩⟩) ∧
    (rx ≠ .error → s.rx.buf.length + (rxBytes rx).length ≠ s.par.rxCapacity →
      resyncRun rx s = ⟨.ok, (resyncDrain (s.setRx ⟨s.rx.buf ++ rxBytes rx⟩)).report,
        (resyncDrain (s.setRx ⟨s.rx.buf ++ rxBytes rx⟩)).state⟩)

/-- A read answer longer than the room is refused by the two operations that read (I10 of
93_implementation_defined.md). -/
def Obligations.ReadBeyondRoomIsRefused : Prop :=
  ∀ s : State, s.par.rxCapacity - s.rx.buf.length < (rxBytes (nextRead s.env)).length →
    exec .opPoll s = .refused .readBeyondRoom ∧
    (s.ses.phase = .init → exec .opInitStep s = .refused .readBeyondRoom)

/-- 42_resynchronizer.md section 1: a read that fills the buffer empties it, decodes nothing, keeps the sync count and
reports one overflow with status OK (the model follows decision D4). -/
def Obligations.FullBufferIsFlushedUndecoded : Prop :=
  ∀ s : State, nextRead s.env ≠ .error → s.rx.buf.length + (rxBytes (nextRead s.env)).length = s.par.rxCapacity →
    ∃ s', exec .opPoll s = .next s' ∧ s'.rx.buf = [] ∧ s'.sync = s.sync ∧ s'.ds = s.ds ∧ s'.cfg = s.cfg ∧
      s'.ses = s.ses ∧ s'.par = s.par ∧ s'.response = some ⟨.ok, 0, ⟨false, false, true, false⟩, none⟩

/-- 42_resynchronizer.md section 3: a poll whose read fails changes no register and reports the error (the model follows
decision D20). -/
def Obligations.FailedReadChangesNoRegister : Prop :=
  ∀ s : State, nextRead s.env = .error →
    ∃ s', exec .opPoll s = .next s' ∧ s'.rx = s.rx ∧ s'.sync = s.sync ∧ s'.ds = s.ds ∧ s'.cfg = s.cfg ∧
      s'.ses = s.ses ∧ s'.par = s.par ∧ s'.response = some ⟨.ioReadError, 0, ⟨false, false, false, false⟩, none⟩

/-- 42_resynchronizer.md section 3: at most three bytes are left after a run, whatever the read answered. -/
def Obligations.AtMostThreeBytesAreLeft : Prop :=
  (∀ s : State, (resyncDrain s).state.rx.buf.length ≤ 3) ∧
  (∀ (rx : RxResult) (s : State), s.rx.buf.length ≤ 3 → (resyncRun rx s).state.rx.buf.length ≤ 3)

/-- 42_resynchronizer.md section 3, the resynchronisation bound: garbage none of whose windows passes by chance, then
two valid frames. The garbage and the first frame are consumed, the first frame is discarded as the confirmation of
alignment, the second is the first decoded, and the drain goes on behind it in sync. -/
def Obligations.GarbageThenTwoFramesDecodesTheSecond : Prop :=
  ∀ (s : State) (g rest : List Byte) (f1 f2 : Quad),
    s.rx.buf = g ++ (f1.bytes ++ (f2.bytes ++ rest)) →
    validFrame s.par.crcTable f1 = true → validFrame s.par.crcTable f2 = true →
    (g ≠ [] ∨ s.sync.inSyncCount = 0) →
    (∀ (k : Nat) (w : Quad), k < g.length → (s.rx.buf.drop k).take 4 = w.bytes →
      validFrame s.par.crcTable w = false) →
    ∀ m : State, m = ((s.setRx ⟨rest⟩).setSync { s.sync with inSyncCount := 1 }).setDs
        (telemDecode s.par f2.b0 (cat16 f2.b2 f2.b1) s.ds).ds →
      (resyncDrain s).state = (resyncDrain m).state ∧
      (resyncDrain s).report
        = (telemDecode s.par f2.b0 (cat16 f2.b2 f2.b1) s.ds).report.union (resyncDrain m).report

/-- 20_memory.md section 7 and 42_resynchronizer.md section 2: how the stream is cut into reads does not matter, as long
as no read fails or fills the buffer. Draining after each of two pieces ends in the same state, with the same tags and
events in all, as draining once after both. Two successive runs, neither of which fails or fills the buffer, end as one
drain of all the bytes does, and as one run does on a read of all the bytes that does not fill the buffer either. -/
def Obligations.DrainingInPiecesEqualsDrainingAtOnce : Prop :=
  (∀ (s : State) (bs cs : List Byte),
    (resyncDrain (resyncAppend (bs ++ cs) s)).state
      = (resyncDrain (resyncAppend cs (resyncDrain (resyncAppend bs s)).state)).state ∧
    (resyncDrain (resyncAppend (bs ++ cs) s)).report
      = (resyncDrain (resyncAppend bs s)).report.union
          (resyncDrain (resyncAppend cs (resyncDrain (resyncAppend bs s)).state)).report) ∧
  (∀ (s : State) (rx1 rx2 : RxResult) (r1 r2 : Resynced) (bs : List Byte),
    r1 = resyncRun rx1 s → r2 = resyncRun rx2 r1.state → bs = rxBytes rx1 ++ rxBytes rx2 →
    rx1 ≠ .error → rx2 ≠ .error → s.rx.buf.length + (rxBytes rx1).length ≠ s.par.rxCapacity →
    r1.state.rx.buf.length + (rxBytes rx2).length ≠ s.par.rxCapacity →
    r1.status = .ok ∧ r2.status = .ok ∧
    r2.state = (resyncDrain (s.setRx ⟨s.rx.buf ++ bs⟩)).state ∧
    r1.report.union r2.report = (resyncDrain (s.setRx ⟨s.rx.buf ++ bs⟩)).report ∧
    (∀ rx : RxResult, rx ≠ .error → rxBytes rx = bs → s.rx.buf.length + bs.length ≠ s.par.rxCapacity →
      resyncRun rx s = ⟨.ok, r1.report.union r2.report, r2.state⟩))

/-- 60_exceptions.md section 3, for a poll: a read error excludes every tag and event, an overflow excludes every tag
and the other warning, and no other event or status occurs. -/
def Obligations.PollReportsMeetAsListed : Prop :=
  ∀ s s' : State, exec .opPoll s = .next s' → ∃ o, s'.response = some o ∧ o.value = none ∧
    (o.status = .ok ∨ o.status = .ioReadError) ∧ o.events.ioReadError = false ∧ o.events.ioWriteError = false ∧
    (o.status = .ioReadError → o.tags = 0 ∧ o.events = ⟨false, false, false, false⟩ ∧ s'.ds = s.ds) ∧
    (o.events.overflow = true → o.tags = 0 ∧ o.events.invalidPacket = false ∧ s'.ds = s.ds)

/-! ## Parameter scheduler -/

/-- R230: the schedule, slot by slot. -/
def Obligations.ScheduleTableIsAsPrinted : Prop :=
  (List.range 23).map scheduledItem =
    [some .maxCurrent, none, none, none, some .maxControllerTemp, none, some .maxMotorTemp, none,
     some .maxCurrent, none, none, none, some .rudderRange, none, none, none,
     some .maxCurrent, none, some .maxSlew, none, some .currentCalibration, none, some .voltageCalibration]

/-- 44_param_scheduler.md section 1: a tick with the guard clear, or at a slot without an item, offers nothing and only
advances the schedule (the model follows decision D7: the counter moves whether or not the guard is set). -/
def Obligations.TickWithoutItemOnlyAdvances : Prop :=
  ∀ s : State, s.cfg.paramsSet = false ∨ scheduledItem s.sync.outSync = none →
    schedStep s = ⟨.ok, s.setSync { s.sync with outSync := (s.sync.outSync + 1) % 23 }⟩

/-- 30_encoding.md section 3 and 20_memory.md section 2: each of the eleven outbound frames is offered whole, once, as
its encoding, with the code of the table; the answer alone decides the status. -/
def Obligations.OutboundFramesAreOfferedOnce : Prop :=
  OffersFrame .txCommand 0xC7 ∧ OffersFrame .txReset 0xE7 ∧ OffersFrame .txMaxCurrent 0x1E ∧
  OffersFrame .txMaxControllerTemp 0xA4 ∧ OffersFrame .txMaxMotorTemp 0x5A ∧ OffersFrame .txRudderRange 0xB6 ∧
  OffersFrame .txReprogram 0x19 ∧ OffersFrame .txDisengage 0x68 ∧ OffersFrame .txMaxSlew 0x71 ∧
  OffersFrame .txCurrentCalibration 0xDB ∧ OffersFrame .txVoltageCalibration 0x4E

/-- R239: while no configuration has been set, no step offers a parameter frame, only the four command codes leave; the
first tick after a configuration offers whatever item its slot holds. -/
def Obligations.NoParameterFrameBeforeConfiguration : Prop :=
  (∀ s s' : State, s.cfg.paramsSet = false → step s = .next s' →
    ∀ c ∈ offeredCodes (newEvents s s'), c ∈ [(0xC7 : Byte), 0xE7, 0x19, 0x68]) ∧
  (∀ (a : ConfigValues) (s : State) (k : TxKind), scheduledItem s.sync.outSync = some k →
    ∃ s', exec (.opSetConfiguration a) s = .next s' ∧
      offeredCodes (newEvents s' (schedStep s').state) = [txCode k])

/-- 44_param_scheduler.md section 2: the three limits are sent in hundredths, truncated (the model follows decisions D9
and D12). -/
def Obligations.LimitsArePackedAsTruncatedHundredths : Prop :=
  ∀ c : ConfigValues, ConfigInRange c →
    ((packMaxCurrent c).toNat : ℤ) = ⌊c.maxCurrent * 100⌋ ∧
    ((packMaxControllerTemp c).toNat : ℤ) = ⌊c.maxControllerTemp * 100⌋ ∧
    ((packMaxMotorTemp c).toNat : ℤ) = ⌊c.maxMotorTemp * 100⌋

/-- 44_param_scheduler.md section 2: rudder range truncated, slew limits and calibration factors rounded to the nearest
byte, offsets toward zero as signed bytes (the floor of an offset of 0 or more, the ceiling of a negative one), each field
in the byte the rules say (the model follows decisions D9, D13 and D27). -/
def Obligations.BytePairsArePackedToTheirFields : Prop :=
  ∀ c : ConfigValues, ConfigInRange c →
    ((lo8 (packRudderRange c)).toNat : ℤ) = ⌊c.rudderMin * 255⌋ ∧
    ((hi8 (packRudderRange c)).toNat : ℤ) = ⌊c.rudderMax * 255⌋ ∧
    ((lo8 (packMaxSlew c)).toNat : ℤ) = ⌊c.slewFast * 255 / 100 + 1 / 2⌋ ∧
    ((hi8 (packMaxSlew c)).toNat : ℤ) = ⌊c.slewSlow * 255 / 100 + 1 / 2⌋ ∧
    ((lo8 (packCurrentCalibration c)).toNat : ℤ) = ⌊(c.currentFactor - 8 / 10) * 625 + 1 / 2⌋ ∧
    (hi8 (packCurrentCalibration c)).toInt = (if 0 ≤ c.currentOffset then ⌊c.currentOffset⌋ else ⌈c.currentOffset⌉) ∧
    ((lo8 (packVoltageCalibration c)).toNat : ℤ) = ⌊(c.voltageFactor - 8 / 10) * 625 + 1 / 2⌋ ∧
    (hi8 (packVoltageCalibration c)).toInt = (if 0 ≤ c.voltageOffset then ⌊c.voltageOffset⌋ else ⌈c.voltageOffset⌉)

/-- 44_param_scheduler.md with 43_telemetry_decoder.md: the view of an echoed limit is the configured limit to within a
hundredth, downward. -/
def Obligations.EchoedLimitIsWithinAHundredth : Prop :=
  ∀ (c : ConfigValues) (d : DeviceStatus), ConfigInRange c →
    (0 ≤ c.maxCurrent - viewMaxCurrent (d.set .maxCurrent (packMaxCurrent c)) ∧
      c.maxCurrent - viewMaxCurrent (d.set .maxCurrent (packMaxCurrent c)) < 1 / 100) ∧
    (0 ≤ c.maxControllerTemp - viewMaxControllerTemp (d.set .maxControllerTemp (packMaxControllerTemp c)) ∧
      c.maxControllerTemp - viewMaxControllerTemp (d.set .maxControllerTemp (packMaxControllerTemp c)) < 1 / 100) ∧
    (0 ≤ c.maxMotorTemp - viewMaxMotorTemp (d.set .maxMotorTemp (packMaxMotorTemp c)) ∧
      c.maxMotorTemp - viewMaxMotorTemp (d.set .maxMotorTemp (packMaxMotorTemp c)) < 1 / 100)

/-- 44_param_scheduler.md section 3: with a configuration set, any 23 consecutive scheduler ticks, from any slot, offer
max current three times and each other item once, nothing else, and return to the slot they began at. -/
def Obligations.AnyScheduleCycleOffersEveryItem : Prop :=
  ∀ s : State, s.cfg.paramsSet = true → s.sync.outSync ≤ 22 →
    (ticks 23 s).sync = s.sync ∧
    (offeredCodes (newEvents s (ticks 23 s))).length = 9 ∧
    (offeredCodes (newEvents s (ticks 23 s))).count 0x1E = 3 ∧
    ∀ c ∈ [(0xA4 : Byte), 0x5A, 0xB6, 0x71, 0xDB, 0x4E],
      (offeredCodes (newEvents s (ticks 23 s))).count c = 1

/-! ## Device session -/

/-- 45_device_session.md section 2: a start of an initialization writes the four session registers and nothing else (the
model follows decision D17). -/
def Obligations.InitStartWritesOnlySessionRegisters : Prop :=
  ∀ s : State, exec .opInitialize s
    = .next { s with ses := ⟨.init, 0, false, 0⟩,
                     response := some ⟨.ok, 0, ⟨false, false, false, false⟩, none⟩ }

/-- 45_device_session.md section 2: outside phase INIT the step is refused (the model follows decision D17). -/
def Obligations.InitStepIsRefusedOutsideInit : Prop :=
  ∀ s : State, s.ses.phase ≠ .init → exec .opInitStep s = .refused .initStepOutsideInit

/-- 45_device_session.md section 2: one initialization cycle. One scheduler tick, one neutral command frame, one run of
the resynchronizer on one read, then the counters and the three tests in their order (the model follows decisions D17
and D22). -/
def Obligations.InitStepIsOneCycleAndItsVerdict : Prop :=
  ∀ (s w : State) (a2 : WriteAnswer) (r : Resynced), s.ses.phase = .init → ReadFits s →
    a2 = nextWrite (schedStep s).state.env →
    w = (txWrite (frameEncode s.par.crcTable 0xC7 1000) (schedStep s).state).state →
    r = resyncRun (nextRead s.env) (afterRead w) →
    ∃ s', exec .opInitStep s = .next s' ∧
      s'.rx = r.state.rx ∧ s'.ds = r.state.ds ∧ s'.sync = r.state.sync ∧
      s'.sync.outSync = (s.sync.outSync + 1) % 23 ∧
      s'.hist = (schedStep s).state.hist ++ [.write (frameEncode s.par.crcTable 0xC7 1000) a2,
        .read (s.par.rxCapacity - s.rx.buf.length) (nextRead s.env)] ∧
      s'.env = ⟨s.env.reads.tail, w.env.writes⟩ ∧ s'.par = s.par ∧ s'.cfg = s.cfg ∧ s'.port = s.port ∧
      s'.ses.initCycles = s.ses.initCycles + 1 ∧
      (s'.ses.initDataSeen = true ↔ s.ses.initDataSeen = true ∨ rxBytes (nextRead s.env) ≠ []) ∧
      s'.ses.initStreak = (if 1 ≤ s'.sync.inSyncCount then min (s.ses.initStreak + 1) 20 else 0) ∧
      ∃ o, s'.response = some o ∧ o.value = none ∧ o.tags = r.report.tags ∧
        o.events.ioWriteError = decide ((schedStep s).answer = .error ∨ a2 = .error) ∧
        o.events.ioReadError = decide (nextRead s.env = .error) ∧
        o.events.overflow = r.report.events.overflow ∧ o.events.invalidPacket = r.report.events.invalidPacket ∧
        (s'.ses.phase, o.status)
          = (if 20 ≤ s'.ses.initStreak then (Phase.ready, Status.ok)
             else if s'.ses.initDataSeen = false ∧ s.par.initNoResponseBudget ≤ s'.ses.initCycles then
               (Phase.failedNoResponse, Status.noResponse)
             else if s.par.initSyncBudget ≤ s'.ses.initCycles then (Phase.failedSync, Status.syncFailure)
             else (Phase.init, Status.inProgress))

/-- 45_device_session.md section 2: the blocking form ends, whatever the environment answers: with one of its three
verdicts after at most `INIT_SYNC_BUDGET` cycles, success after no fewer than 20, or refused because an answer broke the
contract of the read port. Answers that leave room for three bytes are never refused (the model follows decision
D17). -/
def Obligations.BlockingInitEndsWithinItsBudget : Prop :=
  (∀ s : State, s.par.wf = true →
    blockingInit s = .refused .readBeyondRoom ∨ ∃ t, blockingInit s = .next t ∧ HasVerdict s.par t) ∧
  (∀ s : State, s.par.wf = true → s.rx.buf.length ≤ 3 →
    (∀ rx ∈ s.env.reads, (rxBytes rx).length + 3 ≤ s.par.rxCapacity) →
    ∃ t, blockingInit s = .next t ∧ HasVerdict s.par t)

/-- 45_device_session.md section 3: a command is one scheduler tick, then one command frame with the clamped and scaled
value; both writes are attempted whatever the first answered (the model follows decision D19). -/
def Obligations.CommandTicksThenSendsItsFrame : Prop :=
  ∀ (v : ℚ) (s : State), TicksThenSends (.opCommand v) s 0xC7 (commandPayload v)

/-- 45_device_session.md section 6: the payload of a command is the clamped value mapped linearly to 0..2000 and
truncated (the model follows decision D9), so it is monotone, and the ends and the middle are 0, 2000 and 1000. -/
def Obligations.CommandPayloadIsClampedLinearTruncated : Prop :=
  (∀ v : ℚ, ((commandPayload v).toNat : ℤ) = ⌊(max (-1) (min v 1) + 1) * 1000⌋ ∧ (commandPayload v).toNat ≤ 2000) ∧
  (∀ v w : ℚ, v ≤ w → (commandPayload v).toNat ≤ (commandPayload w).toNat) ∧
  (∀ v : ℚ, v ≤ -1 → commandPayload v = 0) ∧ (∀ v : ℚ, 1 ≤ v → commandPayload v = 2000) ∧
  commandPayload 0 = 1000

/-- 45_device_session.md section 4: a configuration is stored with every field clamped to its documented range, a field
in range is kept as it is, the guard is set, and nothing else changes (the argument order is decision D24's). -/
def Obligations.SetConfigurationStoresClampedFields : Prop :=
  ∀ (a : ConfigValues) (s : State), ∃ s', exec (.opSetConfiguration a) s = .next s' ∧
    s'.cfg.paramsSet = true ∧ ConfigInRange s'.cfg.values ∧ (ConfigInRange a → s'.cfg.values = a) ∧
    s'.cfg.values.maxCurrent = max 0 (min a.maxCurrent 60) ∧
    s'.cfg.values.maxControllerTemp = max 30 (min a.maxControllerTemp 80) ∧
    s'.cfg.values.maxMotorTemp = max 30 (min a.maxMotorTemp 80) ∧
    s'.cfg.values.rudderMin = max 0 (min a.rudderMin 1) ∧ s'.cfg.values.rudderMax = max 0 (min a.rudderMax 1) ∧
    s'.cfg.values.slewFast = max 0 (min a.slewFast 100) ∧ s'.cfg.values.slewSlow = max 0 (min a.slewSlow 100) ∧
    s'.cfg.values.currentFactor = max (8 / 10) (min a.currentFactor (12 / 10)) ∧
    s'.cfg.values.currentOffset = max (-128) (min a.currentOffset 127) ∧
    s'.cfg.values.voltageFactor = max (8 / 10) (min a.voltageFactor (12 / 10)) ∧
    s'.cfg.values.voltageOffset = max (-128) (min a.voltageOffset 127) ∧
    s'.response = some ⟨.ok, 0, ⟨false, false, false, false⟩, none⟩ ∧
    s'.par = s.par ∧ s'.rx = s.rx ∧ s'.sync = s.sync ∧ s'.ds = s.ds ∧ s'.ses = s.ses ∧ s'.env = s.env ∧
    s'.port = s.port ∧ s'.hist = s.hist

/-- R283: true exactly when the overcurrent bit is set in `DS.flags`; nothing changes, nothing is sent or read. -/
def Obligations.FaultReportsTheOvercurrentBit : Prop :=
  decodeRequest ⟨5, []⟩ = .ok .opFault ∧
  ∀ s : State, exec .opFault s
    = .next { s with response := some ⟨.ok, 0, ⟨false, false, false, false⟩,
        some (decide (s.ds.flags &&& s.par.overcurrentMask ≠ 0))⟩ }

/-- R285 and R287: one frame each and nothing else; no scheduler tick, no register changes. -/
def Obligations.ResetAndReprogramSendOneFrameEach : Prop :=
  decodeRequest ⟨6, []⟩ = .ok .opReset ∧ decodeRequest ⟨8, []⟩ = .ok .opReprogram ∧
  ∀ s : State, OffersOnly .opReset s (frameEncode s.par.crcTable 0xE7 s.par.resetPayload) ∧
    OffersOnly .opReprogram s (frameEncode s.par.crcTable 0x19 s.par.reprogramPayload)

/-- R286: one scheduler tick, then one disengage frame. -/
def Obligations.DisengageTicksThenSendsItsFrame : Prop :=
  decodeRequest ⟨7, []⟩ = .ok .opDisengage ∧
  ∀ s : State, TicksThenSends .opDisengage s 0x68 s.par.disengagePayload

/-- 45_device_session.md section 5, the phase gates nothing but `INIT_STEP`: replacing the session registers changes
nothing else about the seven other operations (the model follows decision D18). -/
def Obligations.SessionPhaseGatesNoOtherOperation : Prop :=
  ∀ (i : Instr) (s s' : State) (e : Session),
    ((∃ v, i = .opCommand v) ∨ i = .opPoll ∨ (∃ a, i = .opSetConfiguration a) ∨ i = .opFault ∨ i = .opReset ∨
      i = .opDisengage ∨ i = .opReprogram) →
    exec i s = .next s' → exec i (s.setSes e) = .next (s'.setSes e)

/-- 10_state.md section 10, the access table: only a poll and an initialization step write the Receive Buffer, the sync
count or Device Status; only the three ticking operations move the schedule; only `SET_CONFIGURATION` writes the
configuration; only the two initialization operations write the session registers. -/
def Obligations.StepWritesOnlyWhatTheTableAllows : Prop :=
  ∀ (s s' : State) (r : Request) (rest : List Call) (i : Instr),
    s.port = .request r :: rest → decodeRequest r = .ok i → step s = .next s' →
    (i ≠ .opPoll → i ≠ .opInitStep →
      s'.rx = s.rx ∧ s'.sync.inSyncCount = s.sync.inSyncCount ∧ s'.ds = s.ds) ∧
    (s'.sync.outSync = s.sync.outSync ∨
      ((∃ v, i = .opCommand v) ∨ i = .opDisengage ∨ i = .opInitStep) ∧
        s'.sync.outSync = (s.sync.outSync + 1) % 23) ∧
    (s'.cfg = s.cfg ∨ ∃ a, i = .opSetConfiguration a) ∧
    (s'.ses = s.ses ∨ i = .opInitialize ∨ i = .opInitStep)

/-- 00_scope.md section 4 and 20_memory.md section 7: no step changes a parameter; the history is only extended; an
answer of the environment is only ever consumed in order. -/
def Obligations.StepKeepsParametersAndExtendsHistory : Prop :=
  ∀ s s' : State, step s = .next s' →
    s'.par = s.par ∧ (∃ h, s'.hist = s.hist ++ h) ∧
    (∃ n ≤ 1, s'.env.reads = s.env.reads.drop n) ∧ (∃ n ≤ 2, s'.env.writes = s.env.writes.drop n)

/-- 30_encoding.md sections 3 and 4: from a state that meets the invariant, every frame a step offers is the encoding of
one of the eleven outbound operations, with a payload the table says the link core can produce; at most two leave. -/
def Obligations.EveryOfferedFrameIsProducible : Prop :=
  ∀ s s' : State, Inv s → step s = .next s' →
    (offers (newEvents s s')).length ≤ 2 ∧
    ∀ o ∈ offers (newEvents s s'), ∃ (k : TxKind) (v : U16),
      o.1 = frameEncode s.par.crcTable (txCode k) v ∧ payloadProducible s.par k v = true

/-- 60_exceptions.md section 1: the four operations that only write report `IO_WRITE_ERROR` exactly when one of their
offers was answered `error` (the model follows decision D19). -/
def Obligations.WriteErrorIsReportedExactly : Prop :=
  ∀ (i : Instr) (s s' : State),
    ((∃ v, i = .opCommand v) ∨ i = .opDisengage ∨ i = .opReset ∨ i = .opReprogram) → exec i s = .next s' →
    ∃ o, s'.response = some o ∧
      (o.status = .ioWriteError ↔ ∃ w ∈ offers (newEvents s s'), w.2 = .error) ∧
      (o.status ≠ .ioWriteError → o.status = .ok)
end

