-- ==== Sys2Proof/Laws/Operands.lean ====
section
/-! SUPPORT. What the operand forms compute: bytes and payloads, signed readings, clamps, rounding, and the integer fields
inside their ranges. -/

namespace Sys2Proof.Machine

theorem cat16_toNat (h l : Byte) : (cat16 h l).toNat = h.toNat * 256 + l.toNat := by
  have e : (cat16 h l).toNat = h.toNat <<< 8 ||| l.toNat := BitVec.toNat_append h l
  rw [e, ← Nat.shiftLeft_add_eq_or_of_lt l.isLt, Nat.shiftLeft_eq]

theorem lo8_toNat (p : U16) : (lo8 p).toNat = p.toNat % 256 := by
  simp [lo8, BitVec.extractLsb'_toNat]

theorem hi8_toNat (p : U16) : (hi8 p).toNat = p.toNat / 256 := by
  have h := p.isLt
  simp [hi8, BitVec.extractLsb'_toNat, Nat.shiftRight_eq_div_pow]
  omega

@[simp] theorem lo8_cat16 (h l : Byte) : lo8 (cat16 h l) = l := by
  apply BitVec.eq_of_toNat_eq
  have := l.isLt
  rw [lo8_toNat, cat16_toNat]
  omega

@[simp] theorem hi8_cat16 (h l : Byte) : hi8 (cat16 h l) = h := by
  apply BitVec.eq_of_toNat_eq
  have := l.isLt
  rw [hi8_toNat, cat16_toNat]
  omega

@[simp] theorem cat16_hi8_lo8 (p : U16) : cat16 (hi8 p) (lo8 p) = p := by
  apply BitVec.eq_of_toNat_eq
  rw [cat16_toNat, lo8_toNat, hi8_toNat]
  omega

theorem sext8_eq_toInt (b : Byte) : sext8 b = b.toInt := by
  have h := b.isLt
  simp only [sext8, BitVec.toInt_eq_toNat_cond]
  split <;> split <;> omega

theorem sext16_eq_toInt (p : U16) : sext16 p = p.toInt := by
  have h := p.isLt
  simp only [sext16, BitVec.toInt_eq_toNat_cond]
  split <;> split <;> omega

theorem tc8_of_range {n : Int} (h1 : -128 ≤ n) (h2 : n ≤ 127) : tc8 n = BitVec.ofInt 8 n := by
  simp [tc8, h1, h2]

theorem byteField_of_range {n : Int} (h1 : 0 ≤ n) (h2 : n ≤ 255) : byteField n = BitVec.ofInt 8 n := by
  simp [byteField, h1, h2]

theorem u16Field_of_range {n : Int} (h1 : 0 ≤ n) (h2 : n ≤ 65535) : u16Field n = BitVec.ofInt 16 n := by
  simp [u16Field, h1, h2]

theorem byteField_toNat {n : Int} (h1 : 0 ≤ n) (h2 : n ≤ 255) : ((byteField n).toNat : ℤ) = n := by
  rw [byteField_of_range h1 h2, BitVec.toNat_ofInt]
  omega

theorem u16Field_toNat {n : Int} (h1 : 0 ≤ n) (h2 : n ≤ 65535) : ((u16Field n).toNat : ℤ) = n := by
  rw [u16Field_of_range h1 h2, BitVec.toNat_ofInt]
  omega

/-- `tc8` is the inverse of the signed reading (R11). -/
theorem tc8_toInt {n : Int} (h1 : -128 ≤ n) (h2 : n ≤ 127) : (tc8 n).toInt = n := by
  rw [tc8_of_range h1 h2, BitVec.toInt_ofInt, Int.bmod_eq_of_le (by omega) (by omega)]

theorem clamp_eq_max_min {x lo hi : ℚ} (h : lo ≤ hi) : clamp x lo hi = max lo (min x hi) := by
  unfold clamp
  split
  · rename_i hx
    rw [max_eq_left (le_trans (min_le_left _ _) hx.le)]
  · rename_i hx
    push Not at hx
    split
    · rename_i hy
      rw [min_eq_right hy.le, max_eq_right h]
    · rename_i hy
      push Not at hy
      rw [min_eq_left hy, max_eq_right hx]

theorem clamp_between {x lo hi : ℚ} (h : lo ≤ hi) : lo ≤ clamp x lo hi ∧ clamp x lo hi ≤ hi := by
  rw [clamp_eq_max_min h]
  exact ⟨le_max_left _ _, max_le h (min_le_right _ _)⟩

theorem clamp_of_between {x lo hi : ℚ} (h1 : lo ≤ x) (h2 : x ≤ hi) : clamp x lo hi = x := by
  simp [clamp, not_lt.mpr h1, not_lt.mpr h2]

/-- Toward zero is downward on the non-negative side (R12). -/
theorem trunc_of_nonneg {q : ℚ} (h : 0 ≤ q) : trunc q = ⌊q⌋ := by
  rw [trunc, Int.tdiv_eq_ediv_of_nonneg (Rat.num_nonneg.mpr h)]
  exact Rat.floor_def'.symm

theorem roundHaz_of_nonneg {q : ℚ} (h : 0 ≤ q) : roundHaz q = ⌊q + 1 / 2⌋ := by
  rw [roundHaz, if_pos h, trunc_of_nonneg (by linarith)]

theorem trunc_neg (q : ℚ) : trunc (-q) = -trunc q := by
  simp [trunc, Int.neg_tdiv]

/-- Toward zero is upward on the other side (R12). -/
theorem trunc_of_nonpos {q : ℚ} (h : q ≤ 0) : trunc q = ⌈q⌉ := by
  have e : trunc q = -trunc (-q) := by rw [trunc_neg, neg_neg]
  rw [e, trunc_of_nonneg (by linarith), Int.floor_neg, neg_neg]

/-- An integer range survives truncation. -/
theorem trunc_between {q : ℚ} {lo hi : Int} (h0 : lo ≤ 0) (h1 : 0 ≤ hi) (hl : (lo : ℚ) ≤ q) (hu : q ≤ (hi : ℚ)) :
    lo ≤ trunc q ∧ trunc q ≤ hi := by
  rcases le_total 0 q with h | h
  · rw [trunc_of_nonneg h]
    exact ⟨le_trans h0 (Int.floor_nonneg.mpr h), by exact_mod_cast le_trans (Int.floor_le q) hu⟩
  · have e : trunc q = -⌊-q⌋ := by
      rw [← trunc_of_nonneg (by linarith), trunc_neg, neg_neg]
    have h2 : ⌊-q⌋ ≤ -lo := by
      have := le_trans (Int.floor_le (-q)) (neg_le_neg hl)
      exact_mod_cast this
    have h3 : 0 ≤ ⌊-q⌋ := Int.floor_nonneg.mpr (by linarith)
    omega

end Sys2Proof.Machine
end

