-- ==== Sys2Proof/Laws/State.lean ====
section
/-! SUPPORT. One lemma per field and update of State, each true by rfl, so that no later proof unfolds a record
update. -/

namespace Sys2Proof.Machine

@[simp] theorem State.setRx_par (s : State) (v : RxBuffer) : (s.setRx v).par = s.par := rfl
@[simp] theorem State.setRx_rx (s : State) (v : RxBuffer) : (s.setRx v).rx = v := rfl
@[simp] theorem State.setRx_sync (s : State) (v : RxBuffer) : (s.setRx v).sync = s.sync := rfl
@[simp] theorem State.setRx_ds (s : State) (v : RxBuffer) : (s.setRx v).ds = s.ds := rfl
@[simp] theorem State.setRx_cfg (s : State) (v : RxBuffer) : (s.setRx v).cfg = s.cfg := rfl
@[simp] theorem State.setRx_ses (s : State) (v : RxBuffer) : (s.setRx v).ses = s.ses := rfl
@[simp] theorem State.setRx_env (s : State) (v : RxBuffer) : (s.setRx v).env = s.env := rfl
@[simp] theorem State.setRx_port (s : State) (v : RxBuffer) : (s.setRx v).port = s.port := rfl
@[simp] theorem State.setRx_hist (s : State) (v : RxBuffer) : (s.setRx v).hist = s.hist := rfl
@[simp] theorem State.setRx_response (s : State) (v : RxBuffer) : (s.setRx v).response = s.response := rfl
@[simp] theorem State.setRx_setRx (s : State) (v w : RxBuffer) :
    (s.setRx v).setRx w = s.setRx w := rfl
@[simp] theorem State.setRx_self (s : State) : s.setRx s.rx = s := rfl

@[simp] theorem State.setSync_par (s : State) (v : SyncState) : (s.setSync v).par = s.par := rfl
@[simp] theorem State.setSync_rx (s : State) (v : SyncState) : (s.setSync v).rx = s.rx := rfl
@[simp] theorem State.setSync_sync (s : State) (v : SyncState) : (s.setSync v).sync = v := rfl
@[simp] theorem State.setSync_ds (s : State) (v : SyncState) : (s.setSync v).ds = s.ds := rfl
@[simp] theorem State.setSync_cfg (s : State) (v : SyncState) : (s.setSync v).cfg = s.cfg := rfl
@[simp] theorem State.setSync_ses (s : State) (v : SyncState) : (s.setSync v).ses = s.ses := rfl
@[simp] theorem State.setSync_env (s : State) (v : SyncState) : (s.setSync v).env = s.env := rfl
@[simp] theorem State.setSync_port (s : State) (v : SyncState) : (s.setSync v).port = s.port := rfl
@[simp] theorem State.setSync_hist (s : State) (v : SyncState) : (s.setSync v).hist = s.hist := rfl
@[simp] theorem State.setSync_response (s : State) (v : SyncState) : (s.setSync v).response = s.response := rfl
@[simp] theorem State.setSync_setSync (s : State) (v w : SyncState) :
    (s.setSync v).setSync w = s.setSync w := rfl
@[simp] theorem State.setSync_self (s : State) : s.setSync s.sync = s := rfl

@[simp] theorem State.setDs_par (s : State) (v : DeviceStatus) : (s.setDs v).par = s.par := rfl
@[simp] theorem State.setDs_rx (s : State) (v : DeviceStatus) : (s.setDs v).rx = s.rx := rfl
@[simp] theorem State.setDs_sync (s : State) (v : DeviceStatus) : (s.setDs v).sync = s.sync := rfl
@[simp] theorem State.setDs_ds (s : State) (v : DeviceStatus) : (s.setDs v).ds = v := rfl
@[simp] theorem State.setDs_cfg (s : State) (v : DeviceStatus) : (s.setDs v).cfg = s.cfg := rfl
@[simp] theorem State.setDs_ses (s : State) (v : DeviceStatus) : (s.setDs v).ses = s.ses := rfl
@[simp] theorem State.setDs_env (s : State) (v : DeviceStatus) : (s.setDs v).env = s.env := rfl
@[simp] theorem State.setDs_port (s : State) (v : DeviceStatus) : (s.setDs v).port = s.port := rfl
@[simp] theorem State.setDs_hist (s : State) (v : DeviceStatus) : (s.setDs v).hist = s.hist := rfl
@[simp] theorem State.setDs_response (s : State) (v : DeviceStatus) : (s.setDs v).response = s.response := rfl
@[simp] theorem State.setDs_setDs (s : State) (v w : DeviceStatus) :
    (s.setDs v).setDs w = s.setDs w := rfl
@[simp] theorem State.setDs_self (s : State) : s.setDs s.ds = s := rfl

@[simp] theorem State.setCfg_par (s : State) (v : ConfigSet) : (s.setCfg v).par = s.par := rfl
@[simp] theorem State.setCfg_rx (s : State) (v : ConfigSet) : (s.setCfg v).rx = s.rx := rfl
@[simp] theorem State.setCfg_sync (s : State) (v : ConfigSet) : (s.setCfg v).sync = s.sync := rfl
@[simp] theorem State.setCfg_ds (s : State) (v : ConfigSet) : (s.setCfg v).ds = s.ds := rfl
@[simp] theorem State.setCfg_cfg (s : State) (v : ConfigSet) : (s.setCfg v).cfg = v := rfl
@[simp] theorem State.setCfg_ses (s : State) (v : ConfigSet) : (s.setCfg v).ses = s.ses := rfl
@[simp] theorem State.setCfg_env (s : State) (v : ConfigSet) : (s.setCfg v).env = s.env := rfl
@[simp] theorem State.setCfg_port (s : State) (v : ConfigSet) : (s.setCfg v).port = s.port := rfl
@[simp] theorem State.setCfg_hist (s : State) (v : ConfigSet) : (s.setCfg v).hist = s.hist := rfl
@[simp] theorem State.setCfg_response (s : State) (v : ConfigSet) : (s.setCfg v).response = s.response := rfl
@[simp] theorem State.setCfg_setCfg (s : State) (v w : ConfigSet) :
    (s.setCfg v).setCfg w = s.setCfg w := rfl
@[simp] theorem State.setCfg_self (s : State) : s.setCfg s.cfg = s := rfl

@[simp] theorem State.setSes_par (s : State) (v : Session) : (s.setSes v).par = s.par := rfl
@[simp] theorem State.setSes_rx (s : State) (v : Session) : (s.setSes v).rx = s.rx := rfl
@[simp] theorem State.setSes_sync (s : State) (v : Session) : (s.setSes v).sync = s.sync := rfl
@[simp] theorem State.setSes_ds (s : State) (v : Session) : (s.setSes v).ds = s.ds := rfl
@[simp] theorem State.setSes_cfg (s : State) (v : Session) : (s.setSes v).cfg = s.cfg := rfl
@[simp] theorem State.setSes_ses (s : State) (v : Session) : (s.setSes v).ses = v := rfl
@[simp] theorem State.setSes_env (s : State) (v : Session) : (s.setSes v).env = s.env := rfl
@[simp] theorem State.setSes_port (s : State) (v : Session) : (s.setSes v).port = s.port := rfl
@[simp] theorem State.setSes_hist (s : State) (v : Session) : (s.setSes v).hist = s.hist := rfl
@[simp] theorem State.setSes_response (s : State) (v : Session) : (s.setSes v).response = s.response := rfl
@[simp] theorem State.setSes_setSes (s : State) (v w : Session) :
    (s.setSes v).setSes w = s.setSes w := rfl
@[simp] theorem State.setSes_self (s : State) : s.setSes s.ses = s := rfl

@[simp] theorem State.setEnv_par (s : State) (v : Environment) : (s.setEnv v).par = s.par := rfl
@[simp] theorem State.setEnv_rx (s : State) (v : Environment) : (s.setEnv v).rx = s.rx := rfl
@[simp] theorem State.setEnv_sync (s : State) (v : Environment) : (s.setEnv v).sync = s.sync := rfl
@[simp] theorem State.setEnv_ds (s : State) (v : Environment) : (s.setEnv v).ds = s.ds := rfl
@[simp] theorem State.setEnv_cfg (s : State) (v : Environment) : (s.setEnv v).cfg = s.cfg := rfl
@[simp] theorem State.setEnv_ses (s : State) (v : Environment) : (s.setEnv v).ses = s.ses := rfl
@[simp] theorem State.setEnv_env (s : State) (v : Environment) : (s.setEnv v).env = v := rfl
@[simp] theorem State.setEnv_port (s : State) (v : Environment) : (s.setEnv v).port = s.port := rfl
@[simp] theorem State.setEnv_hist (s : State) (v : Environment) : (s.setEnv v).hist = s.hist := rfl
@[simp] theorem State.setEnv_response (s : State) (v : Environment) : (s.setEnv v).response = s.response := rfl
@[simp] theorem State.setEnv_setEnv (s : State) (v w : Environment) :
    (s.setEnv v).setEnv w = s.setEnv w := rfl
@[simp] theorem State.setEnv_self (s : State) : s.setEnv s.env = s := rfl

@[simp] theorem State.setPort_par (s : State) (v : List Call) : (s.setPort v).par = s.par := rfl
@[simp] theorem State.setPort_rx (s : State) (v : List Call) : (s.setPort v).rx = s.rx := rfl
@[simp] theorem State.setPort_sync (s : State) (v : List Call) : (s.setPort v).sync = s.sync := rfl
@[simp] theorem State.setPort_ds (s : State) (v : List Call) : (s.setPort v).ds = s.ds := rfl
@[simp] theorem State.setPort_cfg (s : State) (v : List Call) : (s.setPort v).cfg = s.cfg := rfl
@[simp] theorem State.setPort_ses (s : State) (v : List Call) : (s.setPort v).ses = s.ses := rfl
@[simp] theorem State.setPort_env (s : State) (v : List Call) : (s.setPort v).env = s.env := rfl
@[simp] theorem State.setPort_port (s : State) (v : List Call) : (s.setPort v).port = v := rfl
@[simp] theorem State.setPort_hist (s : State) (v : List Call) : (s.setPort v).hist = s.hist := rfl
@[simp] theorem State.setPort_response (s : State) (v : List Call) : (s.setPort v).response = s.response := rfl
@[simp] theorem State.setPort_setPort (s : State) (v w : List Call) :
    (s.setPort v).setPort w = s.setPort w := rfl
@[simp] theorem State.setPort_self (s : State) : s.setPort s.port = s := rfl

@[simp] theorem State.setHist_par (s : State) (v : List IoEvent) : (s.setHist v).par = s.par := rfl
@[simp] theorem State.setHist_rx (s : State) (v : List IoEvent) : (s.setHist v).rx = s.rx := rfl
@[simp] theorem State.setHist_sync (s : State) (v : List IoEvent) : (s.setHist v).sync = s.sync := rfl
@[simp] theorem State.setHist_ds (s : State) (v : List IoEvent) : (s.setHist v).ds = s.ds := rfl
@[simp] theorem State.setHist_cfg (s : State) (v : List IoEvent) : (s.setHist v).cfg = s.cfg := rfl
@[simp] theorem State.setHist_ses (s : State) (v : List IoEvent) : (s.setHist v).ses = s.ses := rfl
@[simp] theorem State.setHist_env (s : State) (v : List IoEvent) : (s.setHist v).env = s.env := rfl
@[simp] theorem State.setHist_port (s : State) (v : List IoEvent) : (s.setHist v).port = s.port := rfl
@[simp] theorem State.setHist_hist (s : State) (v : List IoEvent) : (s.setHist v).hist = v := rfl
@[simp] theorem State.setHist_response (s : State) (v : List IoEvent) : (s.setHist v).response = s.response := rfl
@[simp] theorem State.setHist_setHist (s : State) (v w : List IoEvent) :
    (s.setHist v).setHist w = s.setHist w := rfl
@[simp] theorem State.setHist_self (s : State) : s.setHist s.hist = s := rfl

@[simp] theorem State.setResponse_par (s : State) (v : Option OpOutcome) : (s.setResponse v).par = s.par := rfl
@[simp] theorem State.setResponse_rx (s : State) (v : Option OpOutcome) : (s.setResponse v).rx = s.rx := rfl
@[simp] theorem State.setResponse_sync (s : State) (v : Option OpOutcome) : (s.setResponse v).sync = s.sync := rfl
@[simp] theorem State.setResponse_ds (s : State) (v : Option OpOutcome) : (s.setResponse v).ds = s.ds := rfl
@[simp] theorem State.setResponse_cfg (s : State) (v : Option OpOutcome) : (s.setResponse v).cfg = s.cfg := rfl
@[simp] theorem State.setResponse_ses (s : State) (v : Option OpOutcome) : (s.setResponse v).ses = s.ses := rfl
@[simp] theorem State.setResponse_env (s : State) (v : Option OpOutcome) : (s.setResponse v).env = s.env := rfl
@[simp] theorem State.setResponse_port (s : State) (v : Option OpOutcome) : (s.setResponse v).port = s.port := rfl
@[simp] theorem State.setResponse_hist (s : State) (v : Option OpOutcome) : (s.setResponse v).hist = s.hist := rfl
@[simp] theorem State.setResponse_response (s : State) (v : Option OpOutcome) : (s.setResponse v).response = v := rfl
@[simp] theorem State.setResponse_setResponse (s : State) (v w : Option OpOutcome) :
    (s.setResponse v).setResponse w = s.setResponse w := rfl
@[simp] theorem State.setResponse_self (s : State) : s.setResponse s.response = s := rfl

/-- Two states agree when all their fields do. -/
theorem State.eq_of_fields {s t : State} (h1 : s.par = t.par) (h2 : s.rx = t.rx) (h3 : s.sync = t.sync)
    (h4 : s.ds = t.ds) (h5 : s.cfg = t.cfg) (h6 : s.ses = t.ses) (h7 : s.env = t.env) (h8 : s.port = t.port)
    (h9 : s.hist = t.hist) (h10 : s.response = t.response) : s = t := by
  cases s
  cases t
  simp_all

/-- `DS[t]` after a write of `DS[u]`. -/
theorem DeviceStatus.get_set (d : DeviceStatus) (t u : Tag) (v : U16) :
    (d.set u v).get t = if t = u then v else d.get t := by
  cases u <;> cases t <;> rfl

@[simp] theorem DeviceStatus.get_set_same (d : DeviceStatus) (t : Tag) (v : U16) : (d.set t v).get t = v := by
  simp [DeviceStatus.get_set]

theorem DeviceStatus.get_set_other (d : DeviceStatus) {t u : Tag} (v : U16) (h : t ≠ u) :
    (d.set u v).get t = d.get t := by
  simp [DeviceStatus.get_set, h]

end Sys2Proof.Machine
end

