-- ==== Sys2Proof/Laws/Ops.lean ====
section
/-! SUPPORT. What the shared operations over the streams, the buffer and the outcome can do, each said once. -/

namespace Sys2Proof.Machine

/-! ## Reports -/

@[simp] theorem Events.union_none (e : Events) : e.union .none = e := by cases e; simp [Events.union, Events.none]
@[simp] theorem Events.none_union (e : Events) : Events.union .none e = e := by cases e; simp [Events.union, Events.none]

theorem Events.union_assoc (a b c : Events) : (a.union b).union c = a.union (b.union c) := by
  simp [Events.union, Bool.or_assoc]

@[simp] theorem Report.union_empty (r : Report) : r.union .empty = r := by cases r; simp [Report.union, Report.empty]
@[simp] theorem Report.empty_union (r : Report) : Report.union .empty r = r := by
  cases r; simp [Report.union, Report.empty]

theorem Report.union_assoc (a b c : Report) : (a.union b).union c = a.union (b.union c) := by
  simp [Report.union, Events.union_assoc, BitVec.or_assoc]

/-! ## Writes -/

@[simp] theorem txWrite_answer (f : Quad) (s : State) : (txWrite f s).answer = nextWrite s.env := rfl

/-- A write consumes one answer and extends the history by one offer; nothing else. -/
theorem txWrite_state (f : Quad) (s : State) : (txWrite f s).state
    = (s.setEnv { s.env with writes := s.env.writes.tail }).setHist (s.hist ++ [.write f (nextWrite s.env)]) := rfl

theorem sendFrame_eq (k : TxKind) (v : U16) (s : State) :
    sendFrame k v s = txWrite (frameEncode s.par.crcTable (txCode k) v) s := rfl

@[simp] theorem writeStatus_error_iff (a b : WriteAnswer) :
    writeStatus a b = .ioWriteError ↔ a = .error ∨ b = .error := by
  cases a <;> cases b <;> simp [writeStatus]

@[simp] theorem offers_append (a b : List IoEvent) : offers (a ++ b) = offers a ++ offers b := by
  induction a with
  | nil => rfl
  | cons x a ih => cases x <;> simp [offers, ih]

/-! ## Reads -/

/-- A read either keeps to the room, and consumes and records one answer, or is refused. -/
theorem rxRead_cases (s : State) :
    ((rxBytes (nextRead s.env)).length ≤ rxRoom s ∧ rxRead s = .ok ⟨nextRead s.env,
      (s.setEnv { s.env with reads := s.env.reads.tail }).setHist
        (s.hist ++ [.read (rxRoom s) (nextRead s.env)])⟩) ∨
    (rxRoom s < (rxBytes (nextRead s.env)).length ∧ rxRead s = .error .readBeyondRoom) := by
  by_cases h : (rxBytes (nextRead s.env)).length ≤ rxRoom s
  · exact .inl ⟨h, by simp [rxRead, h]⟩
  · exact .inr ⟨by omega, by simp [rxRead, h]⟩

/-! ## The buffer -/

/-- A window stands exactly on a buffer of at least four bytes. -/
theorem rxWindow_eq_some {s : State} {q : Quad} :
    rxWindow s = some q ↔ ∃ rest, s.rx.buf = q.bytes ++ rest := by
  obtain ⟨b0, b1, b2, b3⟩ := q
  rcases hb : s.rx.buf with _ | ⟨c0, _ | ⟨c1, _ | ⟨c2, _ | ⟨c3, rest⟩⟩⟩⟩ <;>
    simp [rxWindow, rxPeek, hb, Quad.bytes]

theorem rxWindow_eq_none {s : State} : rxWindow s = none ↔ s.rx.buf.length < 4 := by
  rcases hb : s.rx.buf with _ | ⟨c0, _ | ⟨c1, _ | ⟨c2, _ | ⟨c3, rest⟩⟩⟩⟩ <;>
    simp [rxWindow, rxPeek, hb]

@[simp] theorem respond_response (o : OpOutcome) (s : State) : (respond o s).response = some o := rfl

theorem respondReport_eq (st : Status) (r : Report) (s : State) :
    respondReport st r s = s.setResponse (some ⟨st, r.tags, r.events, none⟩) := rfl

theorem respondStatus_eq (st : Status) (s : State) :
    respondStatus st s = s.setResponse (some ⟨st, 0, .none, none⟩) := rfl

end Sys2Proof.Machine
end

