-- ==== Sys2Proof/Laws/PerInstr.lean ====
section
/-! SUPPORT. Family `RowSelector`: every operation's encoding begins with the bits that select its row of
spec/opcode_table.json (the code byte of a frame, the selector of a host operation), in the row's direction. -/

namespace Sys2Proof.Laws

open Sys2Proof.Machine

/-- The direction and the selecting bits of an encoding. -/
def selectorOf : Encoding → Option (Option Direction) × Nat
  | .wire d (b :: _) => (some (some d), b.toNat)
  | .wire _ [] => (none, 0)
  | .request r => (some none, r.opsel.toNat)

/-- The format and the match value of the operation's row (`RX.UNRECOGNIZED` matches by default: its own code). -/
def rowOf : Instr → Option (Option Direction) × Nat
  | .txCommand _ => (some (some .outbound), 0xC7)
  | .txReset _ => (some (some .outbound), 0xE7)
  | .txMaxCurrent _ => (some (some .outbound), 0x1E)
  | .txMaxControllerTemp _ => (some (some .outbound), 0xA4)
  | .txMaxMotorTemp _ => (some (some .outbound), 0x5A)
  | .txRudderRange _ => (some (some .outbound), 0xB6)
  | .txReprogram _ => (some (some .outbound), 0x19)
  | .txDisengage _ => (some (some .outbound), 0x68)
  | .txMaxSlew _ => (some (some .outbound), 0x71)
  | .txCurrentCalibration _ => (some (some .outbound), 0xDB)
  | .txVoltageCalibration _ => (some (some .outbound), 0x4E)
  | .rxCurrent _ => (some (some .inbound), 0x1C)
  | .rxVoltage _ => (some (some .inbound), 0xB3)
  | .rxControllerTemp _ => (some (some .inbound), 0xF9)
  | .rxMotorTemp _ => (some (some .inbound), 0x48)
  | .rxRudder _ => (some (some .inbound), 0xA7)
  | .rxFlags _ => (some (some .inbound), 0x8F)
  | .rxMaxCurrent _ => (some (some .inbound), 0x1E)
  | .rxMaxControllerTemp _ => (some (some .inbound), 0xA4)
  | .rxMaxMotorTemp _ => (some (some .inbound), 0x5A)
  | .rxRudderRange _ => (some (some .inbound), 0xB6)
  | .rxMaxSlew _ => (some (some .inbound), 0x71)
  | .rxCurrentCalibration _ => (some (some .inbound), 0xDB)
  | .rxVoltageCalibration _ => (some (some .inbound), 0x4E)
  | .rxUnrecognized c _ => (some (some .inbound), c.toNat)
  | .opInitialize => (some none, 0)
  | .opInitStep => (some none, 1)
  | .opCommand _ => (some none, 2)
  | .opPoll => (some none, 3)
  | .opSetConfiguration _ => (some none, 4)
  | .opFault => (some none, 5)
  | .opReset => (some none, 6)
  | .opDisengage => (some none, 7)
  | .opReprogram => (some none, 8)

/-- The encoding of `i` selects its row, whatever the CRC table. -/
def RowSelector.Statement (i : Instr) : Prop :=
  ∀ tbl : Vector Byte 256, selectorOf (encode tbl i) = rowOf i

theorem RowSelector.txCommand (v : U16) : RowSelector.Statement (.txCommand v) := fun _ => rfl
theorem RowSelector.txReset (v : U16) : RowSelector.Statement (.txReset v) := fun _ => rfl
theorem RowSelector.txMaxCurrent (v : U16) : RowSelector.Statement (.txMaxCurrent v) := fun _ => rfl
theorem RowSelector.txMaxControllerTemp (v : U16) : RowSelector.Statement (.txMaxControllerTemp v) := fun _ => rfl
theorem RowSelector.txMaxMotorTemp (v : U16) : RowSelector.Statement (.txMaxMotorTemp v) := fun _ => rfl
theorem RowSelector.txRudderRange (v : U16) : RowSelector.Statement (.txRudderRange v) := fun _ => rfl
theorem RowSelector.txReprogram (v : U16) : RowSelector.Statement (.txReprogram v) := fun _ => rfl
theorem RowSelector.txDisengage (v : U16) : RowSelector.Statement (.txDisengage v) := fun _ => rfl
theorem RowSelector.txMaxSlew (v : U16) : RowSelector.Statement (.txMaxSlew v) := fun _ => rfl
theorem RowSelector.txCurrentCalibration (v : U16) : RowSelector.Statement (.txCurrentCalibration v) := fun _ => rfl
theorem RowSelector.txVoltageCalibration (v : U16) : RowSelector.Statement (.txVoltageCalibration v) := fun _ => rfl
theorem RowSelector.rxCurrent (v : U16) : RowSelector.Statement (.rxCurrent v) := fun _ => rfl
theorem RowSelector.rxVoltage (v : U16) : RowSelector.Statement (.rxVoltage v) := fun _ => rfl
theorem RowSelector.rxControllerTemp (v : U16) : RowSelector.Statement (.rxControllerTemp v) := fun _ => rfl
theorem RowSelector.rxMotorTemp (v : U16) : RowSelector.Statement (.rxMotorTemp v) := fun _ => rfl
theorem RowSelector.rxRudder (v : U16) : RowSelector.Statement (.rxRudder v) := fun _ => rfl
theorem RowSelector.rxFlags (v : U16) : RowSelector.Statement (.rxFlags v) := fun _ => rfl
theorem RowSelector.rxMaxCurrent (v : U16) : RowSelector.Statement (.rxMaxCurrent v) := fun _ => rfl
theorem RowSelector.rxMaxControllerTemp (v : U16) : RowSelector.Statement (.rxMaxControllerTemp v) := fun _ => rfl
theorem RowSelector.rxMaxMotorTemp (v : U16) : RowSelector.Statement (.rxMaxMotorTemp v) := fun _ => rfl
theorem RowSelector.rxRudderRange (v : U16) : RowSelector.Statement (.rxRudderRange v) := fun _ => rfl
theorem RowSelector.rxMaxSlew (v : U16) : RowSelector.Statement (.rxMaxSlew v) := fun _ => rfl
theorem RowSelector.rxCurrentCalibration (v : U16) : RowSelector.Statement (.rxCurrentCalibration v) := fun _ => rfl
theorem RowSelector.rxVoltageCalibration (v : U16) : RowSelector.Statement (.rxVoltageCalibration v) := fun _ => rfl
theorem RowSelector.rxUnrecognized (c : Byte) (v : U16) : RowSelector.Statement (.rxUnrecognized c v) := fun _ => rfl
theorem RowSelector.opInitialize : RowSelector.Statement .opInitialize := fun _ => rfl
theorem RowSelector.opInitStep : RowSelector.Statement .opInitStep := fun _ => rfl
theorem RowSelector.opCommand (v : ℚ) : RowSelector.Statement (.opCommand v) := fun _ => rfl
theorem RowSelector.opPoll : RowSelector.Statement .opPoll := fun _ => rfl
theorem RowSelector.opSetConfiguration (a : ConfigValues) : RowSelector.Statement (.opSetConfiguration a) := fun _ => rfl
theorem RowSelector.opFault : RowSelector.Statement .opFault := fun _ => rfl
theorem RowSelector.opReset : RowSelector.Statement .opReset := fun _ => rfl
theorem RowSelector.opDisengage : RowSelector.Statement .opDisengage := fun _ => rfl
theorem RowSelector.opReprogram : RowSelector.Statement .opReprogram := fun _ => rfl

end Sys2Proof.Laws
end

