-- ==== Sys2Proof/Laws/Resync.lean ====
section
/-! SUPPORT. The Resynchronizer: what a turn and the loop leave unchanged, and that the fuel of the loop is enough. -/

namespace Sys2Proof.Machine

/-- What no part of the Resynchronizer touches: it writes the buffer, the sync count and Device Status only. -/
structure ResyncFrame (s t : State) : Prop where
  par : t.par = s.par
  outSync : t.sync.outSync = s.sync.outSync
  cfg : t.cfg = s.cfg
  ses : t.ses = s.ses
  env : t.env = s.env
  port : t.port = s.port
  hist : t.hist = s.hist
  response : t.response = s.response

theorem ResyncFrame.refl (s : State) : ResyncFrame s s := ⟨rfl, rfl, rfl, rfl, rfl, rfl, rfl, rfl⟩

theorem ResyncFrame.trans {s t u : State} (h : ResyncFrame s t) (k : ResyncFrame t u) : ResyncFrame s u :=
  ⟨k.par.trans h.par, k.outSync.trans h.outSync, k.cfg.trans h.cfg, k.ses.trans h.ses, k.env.trans h.env,
   k.port.trans h.port, k.hist.trans h.hist, k.response.trans h.response⟩

/-- Everything a turn can do: a mismatch, a discarded frame, or a decoded frame. -/
theorem resyncTurn_cases (q : Quad) (s : State) :
    (validFrame s.par.crcTable q = false ∧
      resyncTurn q s = ⟨rxDrop 1 (s.setSync { s.sync with inSyncCount := 0 }), .empty⟩) ∨
    (validFrame s.par.crcTable q = true ∧ s.sync.inSyncCount = 0 ∧
      resyncTurn q s = ⟨rxDrop 4 (s.setSync { s.sync with inSyncCount := 1 }), .empty⟩) ∨
    (validFrame s.par.crcTable q = true ∧ s.sync.inSyncCount ≠ 0 ∧
      resyncTurn q s = ⟨rxDrop 4 (s.setDs (telemDecode s.par q.b0 (cat16 q.b2 q.b1) s.ds).ds),
        (telemDecode s.par q.b0 (cat16 q.b2 q.b1) s.ds).report⟩) := by
  cases hv : validFrame s.par.crcTable q
  · exact .inl ⟨rfl, by simp [resyncTurn, hv, resyncMismatch]⟩
  · by_cases hc : s.sync.inSyncCount = 0
    · exact .inr (.inl ⟨rfl, hc, by simp [resyncTurn, hv, resyncMatch, hc]⟩)
    · exact .inr (.inr ⟨rfl, hc, by simp [resyncTurn, hv, resyncMatch, hc]⟩)

theorem resyncTurn_frame (q : Quad) (s : State) : ResyncFrame s (resyncTurn q s).state := by
  rcases resyncTurn_cases q s with ⟨_, h⟩ | ⟨_, _, h⟩ | ⟨_, _, h⟩ <;> rw [h] <;>
    exact ⟨rfl, rfl, rfl, rfl, rfl, rfl, rfl, rfl⟩

/-- A turn on a window removes at least one byte. -/
theorem resyncTurn_shortens {q : Quad} {s : State} (h : rxWindow s = some q) :
    (resyncTurn q s).state.rx.buf.length < s.rx.buf.length := by
  obtain ⟨rest, hb⟩ := rxWindow_eq_some.mp h
  rcases resyncTurn_cases q s with ⟨_, e⟩ | ⟨_, _, e⟩ | ⟨_, _, e⟩ <;> rw [e] <;>
    simp [rxDrop, hb, Quad.bytes] <;> omega

theorem resyncLoop_stop {s : State} (h : s.rx.buf.length < 4) (fuel : Nat) (r : Report) :
    resyncLoop fuel s r = ⟨s, r⟩ := by
  cases fuel with
  | zero => rfl
  | succ n => simp [resyncLoop, rxWindow_eq_none.mpr h]

theorem resyncLoop_turn {s : State} {q : Quad} (h : rxWindow s = some q) (fuel : Nat) (r : Report) :
    resyncLoop (fuel + 1) s r = resyncLoop fuel (resyncTurn q s).state (r.union (resyncTurn q s).report) := by
  simp [resyncLoop, h]

theorem resyncLoop_frame (fuel : Nat) (s : State) (r : Report) : ResyncFrame s (resyncLoop fuel s r).state := by
  induction fuel generalizing s r with
  | zero => exact .refl s
  | succ n ih =>
    cases h : rxWindow s with
    | none => simp only [resyncLoop, h]; exact .refl s
    | some q => rw [resyncLoop_turn h]; exact (resyncTurn_frame q s).trans (ih _ _)

/-- What has been gathered before the loop is only added to. -/
theorem resyncLoop_report (fuel : Nat) (s : State) (r : Report) :
    resyncLoop fuel s r = ⟨(resyncLoop fuel s .empty).state, r.union (resyncLoop fuel s .empty).report⟩ := by
  induction fuel generalizing s r with
  | zero => simp [resyncLoop]
  | succ n ih =>
    cases h : rxWindow s with
    | none => simp [resyncLoop, h]
    | some q =>
      rw [resyncLoop_turn h, resyncLoop_turn h, ih _ (r.union _), ih _ (Report.empty.union _)]
      simp [Report.union_assoc]

/-- Any fuel of at least `RX.len - 3` gives the same result: the loop has ended (R173). -/
theorem resyncLoop_fuel {fuel : Nat} {s : State} (h : s.rx.buf.length ≤ fuel + 3) (r : Report) (extra : Nat) :
    resyncLoop (fuel + extra) s r = resyncLoop fuel s r := by
  induction fuel generalizing s r with
  | zero =>
    rw [resyncLoop_stop (by omega), resyncLoop_stop (by omega)]
  | succ n ih =>
    cases hw : rxWindow s with
    | none =>
      have hl := rxWindow_eq_none.mp hw
      rw [resyncLoop_stop hl, resyncLoop_stop hl]
    | some q =>
      have hs := resyncTurn_shortens hw
      rw [show n + 1 + extra = n + extra + 1 by omega, resyncLoop_turn hw, resyncLoop_turn hw, ih (by omega)]

theorem resyncDrain_frame (s : State) : ResyncFrame s (resyncDrain s).state := resyncLoop_frame _ _ _

/-- A drain of fewer than four bytes does nothing. -/
theorem resyncDrain_stop {s : State} (h : s.rx.buf.length < 4) : resyncDrain s = ⟨s, .empty⟩ :=
  resyncLoop_stop h _ _

/-- A drain is one turn on the window, then a drain of what is left. -/
theorem resyncDrain_turn {s : State} {q : Quad} (h : rxWindow s = some q) :
    resyncDrain s = ⟨(resyncDrain (resyncTurn q s).state).state,
      (resyncTurn q s).report.union (resyncDrain (resyncTurn q s).state).report⟩ := by
  have hs := resyncTurn_shortens h
  have e : rxLen s = (rxLen (resyncTurn q s).state + (s.rx.buf.length - (resyncTurn q s).state.rx.buf.length - 1)) + 1 := by
    simp only [rxLen]; omega
  unfold resyncDrain
  rw [e, resyncLoop_turn h, resyncLoop_fuel (by simp only [rxLen]; omega), resyncLoop_report]
  simp

/-- Everything a run of the Resynchronizer can do: a failed read, a flush, or a drain (R170). -/
theorem resyncRun_cases (rx : RxResult) (s : State) :
    (rx = .error ∧ resyncRun rx s = ⟨.ioReadError, .empty, s⟩) ∨
    (rx ≠ .error ∧ s.rx.buf.length + (rxBytes rx).length = s.par.rxCapacity ∧
      resyncRun rx s = ⟨.ok, ⟨0, .onlyOverflow⟩, s.setRx ⟨[]⟩⟩) ∨
    (rx ≠ .error ∧ s.rx.buf.length + (rxBytes rx).length ≠ s.par.rxCapacity ∧
      resyncRun rx s = ⟨.ok, (resyncDrain (resyncAppend (rxBytes rx) s)).report,
        (resyncDrain (resyncAppend (rxBytes rx) s)).state⟩) := by
  by_cases h : rx = .error
  · exact .inl ⟨h, by simp [resyncRun, h]⟩
  · by_cases hc : s.rx.buf.length + (rxBytes rx).length = s.par.rxCapacity
    · exact .inr (.inl ⟨h, hc, by simp [resyncRun, h, resyncAppend, rxAppend, rxLen, hc, resyncFlush]⟩)
    · exact .inr (.inr ⟨h, hc, by simp [resyncRun, h, resyncAppend, rxAppend, rxLen, hc]⟩)

theorem resyncRun_frame (rx : RxResult) (s : State) : ResyncFrame s (resyncRun rx s).state := by
  rcases resyncRun_cases rx s with ⟨_, h⟩ | ⟨_, _, h⟩ | ⟨_, _, h⟩ <;> rw [h]
  · exact .refl s
  · exact ⟨rfl, rfl, rfl, rfl, rfl, rfl, rfl, rfl⟩
  · have k : ResyncFrame s (resyncAppend (rxBytes rx) s) := ⟨rfl, rfl, rfl, rfl, rfl, rfl, rfl, rfl⟩
    exact k.trans (resyncDrain_frame _)

end Sys2Proof.Machine
end

