-- ==== Sys2Proof/Laws/Step.lean ====
section
/-! SUPPORT. The scheduler tick, the ways a host operation ends, and the ways a step answers a next state. -/

namespace Sys2Proof.Machine

/-- Everything a scheduler tick can do (R231). -/
theorem schedStep_cases (s : State) :
    ((s.cfg.paramsSet = false ∨ scheduledItem s.sync.outSync = none) ∧
      schedStep s = ⟨.ok, s.setSync { s.sync with outSync := (s.sync.outSync + 1) % 23 }⟩) ∨
    (∃ k, s.cfg.paramsSet = true ∧ scheduledItem s.sync.outSync = some k ∧
      schedStep s = ⟨nextWrite s.env,
        (txWrite (frameEncode s.par.crcTable (txCode k) (ownPayload s.par s.cfg.values k)) s).state.setSync
          { s.sync with outSync := (s.sync.outSync + 1) % 23 }⟩) := by
  cases hp : s.cfg.paramsSet
  · exact .inl ⟨.inl rfl, by simp [schedStep, offerScheduled, hp, advanceSchedule, Config.schedPeriod]⟩
  · cases hk : scheduledItem s.sync.outSync with
    | none => exact .inl ⟨.inr rfl, by simp [schedStep, offerScheduled, hp, hk, advanceSchedule, Config.schedPeriod]⟩
    | some k => exact .inr ⟨k, rfl, rfl, by
        simp [schedStep, offerScheduled, hp, hk, advanceSchedule, Config.schedPeriod, sendFrame, txWrite]⟩

/-- What a scheduler tick leaves, whichever slot it serves. -/
structure TickFrame (s t : State) : Prop where
  par : t.par = s.par
  rx : t.rx = s.rx
  sync : t.sync = { s.sync with outSync := (s.sync.outSync + 1) % 23 }
  ds : t.ds = s.ds
  cfg : t.cfg = s.cfg
  ses : t.ses = s.ses
  reads : t.env.reads = s.env.reads
  port : t.port = s.port
  response : t.response = s.response

theorem schedStep_frame (s : State) : TickFrame s (schedStep s).state := by
  rcases schedStep_cases s with ⟨_, h⟩ | ⟨k, _, _, h⟩ <;> rw [h] <;>
    exact ⟨rfl, rfl, rfl, rfl, rfl, rfl, rfl, rfl, rfl⟩

/-- Every way a step answers a next state: no call stands and nothing changes, or the standing request is an operation
whose meaning answers it. -/
theorem step_cases {s s' : State} (h : step s = .next s') :
    s.par.wf = true ∧ ((s.port = [] ∧ s' = s) ∨
    ∃ r rest i, s.port = .request r :: rest ∧ decodeRequest r = .ok i ∧
      exec i ((s.setPort rest).setHist (s.hist ++ [.began i])) = .next s') := by
  unfold step fetch at h
  cases hw : s.par.wf with
  | false => simp [hw] at h
  | true =>
    refine ⟨rfl, ?_⟩
    rw [hw] at h
    rcases hp : s.port with _ | ⟨c, rest⟩
    · simp [hp] at h
      exact .inl ⟨rfl, h.symm⟩
    · cases c with
      | overlapping a b => simp [hp] at h
      | request r =>
        cases hd : decodeRequest r with
        | error e => simp [hp, hd] at h
        | ok i =>
          simp [hp, hd] at h
          exact .inr ⟨r, rest, i, rfl, hd, h⟩

/-- A request decodes to a host operation, never to a wire frame. -/
theorem selectOp_cases {o : BitVec 4} {qs : List ℚ} {i : Instr} (h : selectOp o qs = some i) :
    (o = 0 ∧ qs = [] ∧ i = .opInitialize) ∨ (o = 1 ∧ qs = [] ∧ i = .opInitStep) ∨
    (∃ v, o = 2 ∧ qs = [v] ∧ i = .opCommand v) ∨ (o = 3 ∧ qs = [] ∧ i = .opPoll) ∨
    (∃ a, o = 4 ∧ qs = configArgs a ∧ i = .opSetConfiguration a) ∨ (o = 5 ∧ qs = [] ∧ i = .opFault) ∨
    (o = 6 ∧ qs = [] ∧ i = .opReset) ∨ (o = 7 ∧ qs = [] ∧ i = .opDisengage) ∨
    (o = 8 ∧ qs = [] ∧ i = .opReprogram) := by
  have key : ∀ n : Nat, o.toNat = n → o = BitVec.ofNat 4 n := by
    rintro n rfl; simp
  unfold selectOp at h
  split at h <;> first | (cases h; done) | skip
  all_goals
    rename_i hn
    have ho := key _ hn
    simp only [Option.some.injEq] at h
    subst h
    simp [ho, configArgs]

theorem rationalArgs_eq_some {as : List Arg} {qs : List ℚ} (h : rationalArgs as = some qs) :
    as = qs.map .rational := by
  induction as generalizing qs with
  | nil => simp [rationalArgs] at h; simp [h]
  | cons a as ih =>
    cases a with
    | notANumber => simp [rationalArgs] at h
    | rational q =>
      simp only [rationalArgs, Option.map_eq_some_iff] at h
      obtain ⟨t, ht, rfl⟩ := h
      simp [ih ht]

@[simp] theorem rationalArgs_map (qs : List ℚ) : rationalArgs (qs.map .rational) = some qs := by
  induction qs with
  | nil => rfl
  | cons q qs ih => simp [rationalArgs, ih]

/-- The operation of a decoded request is the one its selector names. -/
theorem decodeRequest_selects {r : Request} {i : Instr} (h : decodeRequest r = .ok i) :
    ∃ qs, r.args = qs.map .rational ∧ selectOp r.opsel qs = some i := by
  unfold decodeRequest at h
  split at h
  · cases h
  · split at h
    · split at h
      · cases h
      · rename_i qs hq
        split at h
        · rename_i j hj
          cases h
          exact ⟨qs, rationalArgs_eq_some hq, hj⟩
        · cases h
    · cases h

end Sys2Proof.Machine
end

