-- ==== Sys2Proof/Laws/Session.lean ====
section
/-! SUPPORT. The verdict of an initialization cycle, and the two operations that read: everything they can do. -/

namespace Sys2Proof.Machine

/-- The four verdicts, each with the tests that lead to it (R262). -/
theorem initVerdict_cases (p : Params) (e : Session) :
    (20 ≤ e.initStreak ∧ initVerdict p e = (.ready, .ok)) ∨
    (e.initStreak < 20 ∧ e.initDataSeen = false ∧ p.initNoResponseBudget ≤ e.initCycles ∧
      initVerdict p e = (.failedNoResponse, .noResponse)) ∨
    (e.initStreak < 20 ∧ ¬(e.initDataSeen = false ∧ p.initNoResponseBudget ≤ e.initCycles) ∧
      p.initSyncBudget ≤ e.initCycles ∧ initVerdict p e = (.failedSync, .syncFailure)) ∨
    (e.initStreak < 20 ∧ ¬(e.initDataSeen = false ∧ p.initNoResponseBudget ≤ e.initCycles) ∧
      e.initCycles < p.initSyncBudget ∧ initVerdict p e = (e.phase, .inProgress)) := by
  unfold initVerdict
  have hs : Config.initSustain = 20 := rfl
  split
  · exact .inl ⟨by omega, rfl⟩
  · split
    · rename_i h
      exact .inr (.inl ⟨by omega, h.1, h.2, rfl⟩)
    · rename_i h
      split
      · exact .inr (.inr (.inl ⟨by omega, h, by omega, rfl⟩))
      · exact .inr (.inr (.inr ⟨by omega, h, by omega, rfl⟩))

/-- What a poll leaves: a run of the Resynchronizer on the next answer, after that answer has been consumed (R271). -/
theorem execOpPoll_next {s s' : State} (h : execOpPoll s = .next s') :
    ∃ t, rxRead s = .ok ⟨nextRead s.env, t⟩ ∧
      s' = respondReport (resyncRun (nextRead s.env) t).status (resyncRun (nextRead s.env) t).report
        (resyncRun (nextRead s.env) t).state := by
  unfold execOpPoll at h
  rcases rxRead_cases s with ⟨_, e⟩ | ⟨_, e⟩ <;> rw [e] at h
  · cases h
    exact ⟨_, e, rfl⟩
  · cases h

/-- What an initialization cycle leaves, from the state after its two writes (R262). -/
theorem execOpInitStep_next {s s' : State} (h : execOpInitStep s = .next s') :
    s.ses.phase = .init ∧ ∃ w t, w = (sendFrame .command neutralPayload (schedStep s).state).state ∧
      rxRead w = .ok ⟨nextRead w.env, t⟩ ∧
      s' = finishCycle (schedStep s).answer (nextWrite (schedStep s).state.env) (nextRead w.env)
        (resyncRun (nextRead w.env) t) := by
  unfold execOpInitStep at h
  by_cases hp : s.ses.phase = .init
  · rw [if_pos hp] at h
    refine ⟨hp, (sendFrame .command neutralPayload (schedStep s).state).state, ?_⟩
    rcases rxRead_cases (sendFrame .command neutralPayload (schedStep s).state).state with ⟨_, e⟩ | ⟨_, e⟩ <;>
      simp only [e] at h
    · cases h
      exact ⟨_, rfl, e, rfl⟩
    · cases h
  · rw [if_neg hp] at h
    cases h

end Sys2Proof.Machine
end

