-- ==== Sys2Proof/Tests/Slice0.lean ====
section
/-! SUPPORT. Tests: the ill-formed terms the checks refuse, the words of the encoding written out, one step of each
operation, and for every statement with hypotheses a state that meets them. The expected bytes and values are those of
spec 95_test_vectors.md (V1 to V7, P1 to P6) or are worked out by hand from the rules named. -/

open Sys2Proof Sys2Proof.Machine Sys2Proof.Claims

namespace Sys2Proof.Tests

set_option Elab.async false

/-! ## Helpers -/

/-- The state an operation leaves, the same state if it leaves none. -/
def after (i : Instr) (s : State) : State :=
  match exec i s with
  | .next t => t
  | _ => s

/-- Whether an operation answers a next state. -/
def completes (i : Instr) (s : State) : Bool :=
  match exec i s with
  | .next _ => true
  | _ => false

/-- Whether a step answers a next state. -/
def steps (s : State) : Bool :=
  match step s with
  | .next _ => true
  | _ => false

/-- The refusal of an operation, if it is refused. -/
def refusal (i : Instr) (s : State) : Option Refusal :=
  match exec i s with
  | .refused r => some r
  | _ => none

/-- The refusal of a step, if it is refused. -/
def stepRefusal (s : State) : Option Refusal :=
  match step s with
  | .refused r => some r
  | _ => none

/-- The default table. -/
def tbl : Vector Byte 256 := crc8DefaultTable

/-- A read of these bytes. -/
def received (bs : List Byte) : RxResult :=
  match bs with
  | [] => .wouldBlock
  | b :: rest => .bytes b rest

/-- The reset state with a buffer, a sync count and one answer to the next read. -/
def listening (buf : List Byte) (count : Nat) (rx : RxResult) : State :=
  { State.reset with rx := ⟨buf⟩, sync := ⟨count, 0⟩, env := ⟨[rx], []⟩ }

/-- The configuration of program P2. -/
def cfgP2 : ConfigValues := ⟨20, 70, 60, 1 / 10, 9 / 10, 15, 30, 1, -5, 21 / 20, -27 / 10⟩

/-- Every field at the lower end of its range (R27). -/
def cfgLow : ConfigValues := ⟨0, 30, 30, 0, 0, 0, 0, 8 / 10, -128, 8 / 10, -128⟩

/-- Every field at the upper end of its range (R27). -/
def cfgHigh : ConfigValues := ⟨60, 80, 80, 1, 1, 100, 100, 12 / 10, 127, 12 / 10, 127⟩

/-- The reset state with a configuration set and the schedule at a slot. -/
def configured (slot : Nat) : State := { State.reset with cfg := ⟨cfgP2, true⟩, sync := ⟨0, slot⟩ }

/-- The reset state with requests standing. -/
def asked (cs : List Call) : State := { State.reset with port := cs }

/-- A state in the middle of an initialization, with budgets 3 and 25 (P5). -/
def initializing (cycles : Nat) (seen : Bool) (streak count : Nat) (rx : RxResult) : State :=
  { listening [] count rx with
    par := { defaultParams with initNoResponseBudget := 3, initSyncBudget := 25 }
    ses := ⟨.init, cycles, seen, streak⟩ }

/-- A poll stands, with a configuration at the upper ends of its ranges. -/
def pollHigh : State := { asked [.request ⟨3, []⟩] with cfg := ⟨cfgHigh, true⟩ }

/-- An initialization cycle stands, every counter at an end of its range. -/
def cycleEdge : State :=
  { initializing 2 false 0 0 .wouldBlock with rx := ⟨[1, 2, 3]⟩, sync := ⟨1, 22⟩, port := [.request ⟨1, []⟩] }

/-- A disengage stands at the last slot, with a configuration at the upper ends of its ranges. -/
def disengageHigh : State := { configured 22 with cfg := ⟨cfgHigh, true⟩, port := [.request ⟨7, []⟩] }

/-- The frame of S8. -/
def fCurrent : Quad := ⟨0x1C, 0x64, 0x00, 0x42⟩

/-- The frame of V4.3. -/
def fVoltage : Quad := ⟨0xB3, 0xB0, 0x04, 0xDC⟩

/-! ## Ill-formed terms -/

theorem test_wellformed_refuses_recognized_code : Instr.wellFormed (.rxUnrecognized 0x1C 0) = false := by decide +kernel

theorem test_wellformed_accepts_outbound_only_code : Instr.wellFormed (.rxUnrecognized 0xC7 0) = true := by
  decide +kernel

/-- One payload beyond each end of R96's table. -/
theorem test_payloads_not_producible :
    [(TxKind.command, (2001 : U16)), (.reset, 1), (.maxCurrent, 6001), (.maxControllerTemp, 2999),
      (.maxControllerTemp, 8001), (.maxMotorTemp, 2999), (.maxMotorTemp, 8001), (.reprogram, 1), (.disengage, 1),
      (.currentCalibration, 0x00FB), (.voltageCalibration, 0x00FB)].all
      (fun x => !payloadProducible defaultParams x.1 x.2) = true := by decide +kernel

/-- One parameter set against each constraint of R8. -/
theorem test_parameter_sets_refused :
    [{ defaultParams with rxCapacity := 4 }, { defaultParams with overcurrentMask := 0 },
      { defaultParams with overcurrentMask := 3 }, { defaultParams with invalidPacketMask := 0 },
      { defaultParams with invalidPacketMask := 0x0004 }, { defaultParams with initNoResponseBudget := 0 },
      { defaultParams with initNoResponseBudget := 1000 },
      { defaultParams with initNoResponseBudget := 5, initSyncBudget := 19 }].all (fun p => !p.wf) = true := by
  decide +kernel

/-! ## CRC and codec (V1, V2) -/

theorem test_crc_check_value :
    crc8Block tbl [0x31, 0x32, 0x33, 0x34, 0x35, 0x36, 0x37, 0x38, 0x39] = 0xF7 := by decide +kernel

theorem test_crc_zero_bytes : crc8Block tbl [0, 0, 0] = 0x4B := by decide +kernel

theorem test_frame_encode : frameEncode tbl 0x55 0x1234 = ⟨0x55, 0x34, 0x12, 0x62⟩ := by decide +kernel

theorem test_frame_word : frameWord fCurrent = 0x4200641C := by decide +kernel

theorem test_frame_decode_collision : frameDecode tbl ⟨0x1C, 0x50, 0x01, 0x42⟩ = some ⟨0x1C, 0x0150⟩ := by decide +kernel

theorem test_frame_decode_flipped : frameDecode tbl ⟨0x1C, 0x65, 0x00, 0x42⟩ = none := by decide +kernel

/-! ## Decoding of words written out from R90, R96 to R98, R118 (V4 to V6) -/

theorem test_decode_outbound_commands :
    decode tbl (.wire .outbound [0xC7, 0xD0, 0x07, 0xDC]) = .ok (.txCommand 2000) ∧
    decode tbl (.wire .outbound [0xE7, 0x00, 0x00, 0xF6]) = .ok (.txReset 0) ∧
    decode tbl (.wire .outbound [0x19, 0x00, 0x00, 0xFB]) = .ok (.txReprogram 0) ∧
    decode tbl (.wire .outbound [0x68, 0x00, 0x00, 0x92]) = .ok (.txDisengage 0) := by decide +kernel

theorem test_decode_outbound_parameters :
    decode tbl (.wire .outbound [0x1E, 0xD0, 0x07, 0x4B]) = .ok (.txMaxCurrent 0x07D0) ∧
    decode tbl (.wire .outbound [0xA4, 0x58, 0x1B, 0xB7]) = .ok (.txMaxControllerTemp 0x1B58) ∧
    decode tbl (.wire .outbound [0x5A, 0x70, 0x17, 0x2C]) = .ok (.txMaxMotorTemp 0x1770) ∧
    decode tbl (.wire .outbound [0xB6, 0x19, 0xE5, 0x7F]) = .ok (.txRudderRange 0xE519) ∧
    decode tbl (.wire .outbound [0x71, 0x26, 0x4D, 0xD5]) = .ok (.txMaxSlew 0x4D26) ∧
    decode tbl (.wire .outbound [0xDB, 0x7D, 0xFB, 0x43]) = .ok (.txCurrentCalibration 0xFB7D) ∧
    decode tbl (.wire .outbound [0x4E, 0x9C, 0xFE, 0x2A]) = .ok (.txVoltageCalibration 0xFE9C) := by decide +kernel

theorem test_decode_inbound_measured :
    decode tbl (.wire .inbound [0x1C, 0x64, 0x00, 0x42]) = .ok (.rxCurrent 100) ∧
    decode tbl (.wire .inbound [0xB3, 0xB0, 0x04, 0xDC]) = .ok (.rxVoltage 1200) ∧
    decode tbl (.wire .inbound [0xF9, 0x0C, 0xFE, 0x8C]) = .ok (.rxControllerTemp 0xFE0C) ∧
    decode tbl (.wire .inbound [0x48, 0xB8, 0x0B, 0xA7]) = .ok (.rxMotorTemp 3000) ∧
    decode tbl (.wire .inbound [0xA7, 0xE0, 0x7F, 0xA4]) = .ok (.rxRudder 32736) ∧
    decode tbl (.wire .inbound [0x8F, 0x14, 0x00, 0xC2]) = .ok (.rxFlags 0x0014) ∧
    decode tbl (.wire .inbound [0x55, 0x34, 0x12, 0x62]) = .ok (.rxUnrecognized 0x55 0x1234) ∧
    decode tbl (.wire .inbound [0xC7, 0xE8, 0x03, 0x9D]) = .ok (.rxUnrecognized 0xC7 1000) := by decide +kernel

theorem test_decode_inbound_echoes :
    decode tbl (.wire .inbound [0x1E, 0xD0, 0x07, 0x4B]) = .ok (.rxMaxCurrent 0x07D0) ∧
    decode tbl (.wire .inbound [0xA4, 0x58, 0x1B, 0xB7]) = .ok (.rxMaxControllerTemp 0x1B58) ∧
    decode tbl (.wire .inbound [0x5A, 0x70, 0x17, 0x2C]) = .ok (.rxMaxMotorTemp 0x1770) ∧
    decode tbl (.wire .inbound [0xB6, 0x19, 0xE6, 0x2C]) = .ok (.rxRudderRange 0xE619) ∧
    decode tbl (.wire .inbound [0x71, 0xFF, 0x80, 0xD9]) = .ok (.rxMaxSlew 0x80FF) ∧
    decode tbl (.wire .inbound [0xDB, 0x7D, 0xFB, 0x43]) = .ok (.rxCurrentCalibration 0xFB7D) ∧
    decode tbl (.wire .inbound [0x4E, 0x7D, 0x05, 0xC0]) = .ok (.rxVoltageCalibration 0x057D) := by decide +kernel

theorem test_decode_requests :
    decode tbl (.request ⟨0, []⟩) = .ok .opInitialize ∧ decode tbl (.request ⟨1, []⟩) = .ok .opInitStep ∧
    decode tbl (.request ⟨2, [.rational (1 / 2)]⟩) = .ok (.opCommand (1 / 2)) ∧
    decode tbl (.request ⟨3, []⟩) = .ok .opPoll ∧
    decode tbl (.request ⟨4, [.rational 20, .rational 70, .rational 60, .rational (1 / 10), .rational (9 / 10),
      .rational 15, .rational 30, .rational 1, .rational (-5), .rational (21 / 20), .rational (-27 / 10)]⟩)
      = .ok (.opSetConfiguration cfgP2) ∧
    decode tbl (.request ⟨5, []⟩) = .ok .opFault ∧ decode tbl (.request ⟨6, []⟩) = .ok .opReset ∧
    decode tbl (.request ⟨7, []⟩) = .ok .opDisengage ∧ decode tbl (.request ⟨8, []⟩) = .ok .opReprogram := by
  decide +kernel

theorem test_decode_refusals :
    decode tbl (.wire .inbound [0x1C, 0x64, 0x00]) = .error .notFourBytes ∧
    decode tbl (.wire .inbound [0x1C, 0x64, 0x00, 0x43]) = .error .crcMismatch ∧
    decode tbl (.wire .outbound [0x1C, 0x64, 0x00, 0x42]) = .error (.noSuchOutboundCode 0x1C) ∧
    decode tbl (.request ⟨15, []⟩) = .error (.noSuchOperation 15) ∧
    decode tbl (.request ⟨3, [.rational 0]⟩) = .error (.wrongArgumentCount 3) ∧
    decode tbl (.request ⟨2, [.notANumber]⟩) = .error (.argumentNotANumber 2) := by decide +kernel

theorem test_table_words :
    decodeTableWord 8 0xC7 = some (.txCommand 0) ∧ decodeTableWord 8 0x1C = some (.rxCurrent 0) ∧
    decodeTableWord 32 0x00000000 = some (.rxUnrecognized 0 0) ∧
    decodeTableWord 32 0x4200641C = some (.rxCurrent 100) ∧ decodeTableWord 8 0x03 = some .opPoll := by decide +kernel

/-- A step runs the staged word, for one code or selector of every row. -/
theorem test_staged_words_step :
    [0xC7, 0xE7, 0x19, 0x68, 0x1C, 0xB3, 0xF9, 0x48, 0xA7, 0x8F, 0x1E, 0xA4, 0x5A, 0xB6, 0x71, 0xDB, 0x4E, 0x55,
      0, 1, 2, 3, 4, 5, 6, 7, 8].all (fun w => steps (State.reset.withFetchWord 8 w)) = true := by decide +kernel

/-- The parameter frames run as the first operation: their codes are read as inbound ones from a table word. -/
theorem test_staged_parameters_step :
    (parameterKinds.all fun k =>
      let t := match step (stageInstr (txInstr k 0x0BB8) State.reset) with
        | .next t => t
        | _ => State.reset
      (offers t.hist).head? == some (frameEncode tbl (txCode k) 0x0BB8, WriteAnswer.ok)) = true := by decide +kernel

/-! ## Outbound frames (V5, V6) -/

theorem test_tx_frames_offered :
    [(Instr.txCommand 2000, (⟨0xC7, 0xD0, 0x07, 0xDC⟩ : Quad)), (.txReset 0, ⟨0xE7, 0x00, 0x00, 0xF6⟩),
      (.txReprogram 0, ⟨0x19, 0x00, 0x00, 0xFB⟩), (.txDisengage 0, ⟨0x68, 0x00, 0x00, 0x92⟩),
      (.txMaxCurrent 0x07D0, ⟨0x1E, 0xD0, 0x07, 0x4B⟩), (.txMaxControllerTemp 0x1B58, ⟨0xA4, 0x58, 0x1B, 0xB7⟩),
      (.txMaxMotorTemp 0x1770, ⟨0x5A, 0x70, 0x17, 0x2C⟩), (.txRudderRange 0xE519, ⟨0xB6, 0x19, 0xE5, 0x7F⟩),
      (.txMaxSlew 0x4D26, ⟨0x71, 0x26, 0x4D, 0xD5⟩), (.txCurrentCalibration 0xFB7D, ⟨0xDB, 0x7D, 0xFB, 0x43⟩),
      (.txVoltageCalibration 0xFE9C, ⟨0x4E, 0x9C, 0xFE, 0x2A⟩)].all
      (fun x => offers (after x.1 State.reset).hist == [(x.2, WriteAnswer.ok)]) = true := by decide +kernel

/-- The packed payloads of V5.8 to V5.20. -/
theorem test_packings :
    packMaxCurrent cfgP2 = 0x07D0 ∧ packMaxControllerTemp cfgP2 = 0x1B58 ∧ packMaxMotorTemp cfgP2 = 0x1770 ∧
    packRudderRange cfgP2 = 0xE519 ∧ packMaxSlew cfgP2 = 0x4D26 ∧ packCurrentCalibration cfgP2 = 0xFB7D ∧
    packVoltageCalibration cfgP2 = 0xFE9C ∧ packCurrentCalibration cfgLow = 0x8000 ∧
    packCurrentCalibration cfgHigh = 0x7FFA ∧ packMaxSlew cfgHigh = 0xFFFF := by decide +kernel

/-! ## Inbound frames (V4) -/

theorem test_rx_measured :
    viewCurrent (after (.rxCurrent 0xFFFF) State.reset).ds = 13107 / 20 ∧
    viewVoltage (after (.rxVoltage 0x04B0) State.reset).ds = 12 ∧
    viewControllerTemp (after (.rxControllerTemp 0xFE0C) State.reset).ds = -5 ∧
    viewControllerTemp (after (.rxControllerTemp 0x8000) State.reset).ds = -8192 / 25 ∧
    viewMotorTemp (after (.rxMotorTemp 0x0BB8) State.reset).ds = 30 ∧
    viewRudder (after (.rxRudder 0x7FE0) State.reset).ds = .fraction (1 / 2) ∧
    viewRudder (after (.rxRudder 0xFFFF) State.reset).ds = .undefined := by decide +kernel

theorem test_rx_flags :
    (after (.rxFlags 0x0014) State.reset).response = some ⟨.ok, 0x0020, ⟨false, false, false, true⟩, none⟩ ∧
    overcurrent defaultParams (after (.rxFlags 0x0014) State.reset).ds.flags = true ∧
    overcurrent defaultParams (after (.rxFlags 0x0010) State.reset).ds.flags = false := by decide +kernel

theorem test_rx_echoes :
    viewMaxCurrent (after (.rxMaxCurrent 0x07D0) State.reset).ds = 20 ∧
    viewMaxControllerTemp (after (.rxMaxControllerTemp 0xFFFF) State.reset).ds = 65535 / 100 ∧
    viewMaxMotorTemp (after (.rxMaxMotorTemp 0x1770) State.reset).ds = 60 ∧
    viewRudderMin (after (.rxRudderRange 0xE619) State.reset).ds = 5 / 51 ∧
    viewRudderMax (after (.rxRudderRange 0xE619) State.reset).ds = 46 / 51 ∧
    viewSlewFast (after (.rxMaxSlew 0x80FF) State.reset).ds = 100 ∧
    viewSlewSlow (after (.rxMaxSlew 0x80FF) State.reset).ds = 50 ∧
    viewCurrentFactor (after (.rxCurrentCalibration 0x80FF) State.reset).ds = 151 / 125 ∧
    viewCurrentOffset (after (.rxCurrentCalibration 0x80FF) State.reset).ds = -128 ∧
    viewVoltageFactor (after (.rxVoltageCalibration 0x057D) State.reset).ds = 1 ∧
    viewVoltageOffset (after (.rxVoltageCalibration 0x057D) State.reset).ds = 5 := by decide +kernel

theorem test_rx_unrecognized : (after (.rxUnrecognized 0x55 0x1234) State.reset).ds = State.reset.ds := by decide +kernel

/-! ## Host operations (V3, V6, V7, P5, P6) -/

/-- V3.3: the first frame is discarded. V3.6: a mismatch drops one byte. -/
theorem test_poll_windows :
    let a := after .opPoll (listening [0x1C, 0x64, 0x00] 0 (received [0x42, 0x1C, 0x64]))
    let b := after .opPoll (listening [] 1 (received [0x1C, 0x64, 0x00, 0x43]))
    (a.rx.buf, a.sync.inSyncCount, a.ds.currentRaw) = ([0x1C, 0x64], 1, 0) ∧
    (b.rx.buf, b.sync.inSyncCount) = ([0x64, 0x00, 0x43], 0) := by decide +kernel

/-- V3.5: two frames, two tags. V3.11: a full buffer is flushed. V3.9: a failed read. -/
theorem test_poll_outcomes :
    (after .opPoll (listening [] 1 (received (fCurrent.bytes ++ fVoltage.bytes)))).response
      = some ⟨.ok, 0x0003, .none, none⟩ ∧
    (after .opPoll (listening [0x1C, 0x64, 0x00] 0 (received (List.replicate 29 0)))).response
      = some ⟨.ok, 0, ⟨false, false, true, false⟩, none⟩ ∧
    (after .opPoll (listening [0x1C, 0x64, 0x00] 1 .error)).response
      = some ⟨.ioReadError, 0, .none, none⟩ := by decide +kernel

/-- V6.15: the first write fails, the second is still attempted. -/
theorem test_command_after_failed_write :
    let t := after (.opCommand (-1 / 4)) { configured 0 with env := ⟨[], [.error, .ok]⟩ }
    offers t.hist = [(⟨0x1E, 0xD0, 0x07, 0x4B⟩, .error), (⟨0xC7, 0xEE, 0x02, 0xF6⟩, .ok)] ∧
    t.sync.outSync = 1 ∧ lastStatus t = some .ioWriteError := by decide +kernel

/-- V6.1, V6.3, V6.7 to V6.10. -/
theorem test_command_payloads :
    commandPayload 2 = 2000 ∧ commandPayload (-3) = 0 ∧ commandPayload (1 / 3) = 1333 ∧
    commandPayload (-1 / 3) = 666 ∧ commandPayload (-1 / 2000) = 999 ∧ commandPayload (9999 / 10000) = 1999 := by
  decide +kernel

/-- P6 and S6: every field clamped. -/
theorem test_set_configuration_clamps :
    (after (.opSetConfiguration ⟨999, 10, 85, -5, 2, 150, -1, 2, 200, 1 / 2, -500⟩) State.reset).cfg
      = ⟨⟨60, 30, 80, 0, 1, 100, 0, 12 / 10, 127, 8 / 10, -128⟩, true⟩ := by decide +kernel

/-- V6.18 to V6.21. -/
theorem test_fault :
    ([0x0000, 0x0004, 0x0010, 0xFFFB].map fun f : U16 =>
      (after .opFault { State.reset with ds := { DeviceStatus.reset with flags := f } }).response.bind (·.value))
      = [some false, some true, some false, some false] := by decide +kernel

/-- V6.11, V6.12: no tick. V6.17: the error is reported. -/
theorem test_reset_and_reprogram :
    let a := after .opReset { State.reset with env := ⟨[], [.error]⟩ }
    let b := after .opReprogram State.reset
    (offers a.hist, a.sync.outSync, lastStatus a) = ([(⟨0xE7, 0x00, 0x00, 0xF6⟩, .error)], 0, some .ioWriteError) ∧
    (offers b.hist, b.sync.outSync, lastStatus b) = ([(⟨0x19, 0x00, 0x00, 0xFB⟩, .ok)], 0, some .ok) := by
  decide +kernel

/-- V6.14: a tick, then the disengage frame. -/
theorem test_disengage :
    let t := after .opDisengage (configured 8)
    offers t.hist = [(⟨0x1E, 0xD0, 0x07, 0x4B⟩, .ok), (⟨0x68, 0x00, 0x00, 0x92⟩, .ok)] ∧ t.sync.outSync = 9 := by
  decide +kernel

/-- V6.22: from any phase. -/
theorem test_initialize :
    (after .opInitialize (initializing 7 true 3 1 .wouldBlock)).ses = ⟨.init, 0, false, 0⟩ := by decide +kernel

/-- V7.9: both link errors are events of the cycle. -/
theorem test_init_step_errors :
    let t := after .opInitStep { initializing 0 false 0 0 .error with env := ⟨[.error], [.error]⟩ }
    t.response = some ⟨.inProgress, 0, ⟨true, true, false, false⟩, none⟩ ∧ t.ses = ⟨.init, 1, false, 0⟩ ∧
    offers t.hist = [(⟨0xC7, 0xE8, 0x03, 0x9D⟩, .error)] := by decide +kernel

/-- P5: the third silent cycle, the twentieth in sync, the twenty-fifth without; V6.23. -/
theorem test_init_step_verdicts :
    (after .opInitStep (initializing 2 false 0 0 .wouldBlock)).ses = ⟨.failedNoResponse, 3, false, 0⟩ ∧
    (after .opInitStep (initializing 19 true 19 1 (received fCurrent.bytes))).ses = ⟨.ready, 20, true, 20⟩ ∧
    (after .opInitStep (initializing 24 true 0 0 (received [0x55]))).ses = ⟨.failedSync, 25, true, 0⟩ ∧
    refusal .opInitStep State.reset = some .initStepOutsideInit := by decide +kernel

theorem test_step_refusals :
    stepRefusal (asked [.overlapping ⟨3, []⟩ ⟨3, []⟩]) = some .overlappingOperations ∧
    stepRefusal (asked [.request ⟨9, []⟩]) = some (.undecodable (.noSuchOperation 9)) ∧
    refusal .opPoll (listening [] 0 (received (List.replicate 33 0))) = some .readBeyondRoom ∧
    stepRefusal { State.reset with par := { defaultParams with rxCapacity := 4 } } = some .parameterSetRefused := by
  decide +kernel

/-! ## A state and operands that meet the hypotheses of each statement -/

theorem witness_ConstructionMeetsRegisterInvariant :
    defaultParams.wf = true ∧ ({ defaultParams with rxCapacity := 5, initNoResponseBudget := 19, initSyncBudget := 20 }
      : Params).wf = true := by decide +kernel

set_option synthInstance.maxSize 1000 in
theorem witness_EveryStepKeepsRegisterInvariant :
    Inv pollHigh ∧ Inv cycleEdge ∧ steps pollHigh = true ∧ steps cycleEdge = true := by decide +kernel

theorem witness_StepRunsStandingRequest :
    (asked [.request ⟨8, []⟩]).par.wf = true ∧ (asked [.request ⟨8, []⟩]).port = [.request ⟨8, []⟩] ∧
    decode (asked [.request ⟨8, []⟩]).par.crcTable (.request ⟨8, []⟩) = .ok .opReprogram := by decide +kernel

/-- Each clause; selectors 8, 9 and 15, one argument too few and one too many, the last of eleven not a number. -/
theorem witness_StepIdlesOrRefusesByName :
    (State.reset.par.wf = true ∧ State.reset.port = []) ∧
    (asked [.overlapping ⟨3, []⟩ ⟨3, []⟩]).port = [.overlapping ⟨3, []⟩ ⟨3, []⟩] ∧
    ({ State.reset with par := { defaultParams with rxCapacity := 4 } } : State).par.wf = false ∧
    ((asked [.request ⟨9, []⟩]).port = [.request ⟨9, []⟩] ∧
      decodeRequest ⟨9, []⟩ = .error (.noSuchOperation 9)) ∧
    (9 ≤ (9 : BitVec 4).toNat ∧ 9 ≤ (15 : BitVec 4).toNat) ∧
    (argumentCount 2 = some 1 ∧ ([] : List Arg).length ≠ 1 ∧
      argumentCount 8 = some 0 ∧ [Arg.notANumber].length ≠ 0) ∧
    (argumentCount 2 = some [Arg.notANumber].length ∧ Arg.notANumber ∈ [Arg.notANumber]) ∧
    (argumentCount 4 = some (List.replicate 10 (Arg.rational 0) ++ [Arg.notANumber]).length ∧
      Arg.notANumber ∈ List.replicate 10 (Arg.rational 0) ++ [Arg.notANumber]) := by decide +kernel

theorem witness_PollRunsTheReceivedFrame :
    let s := { listening [] 1 (received fCurrent.bytes) with par := { defaultParams with rxCapacity := 5 } }
    5 ≤ s.par.rxCapacity ∧ s.rx.buf = [] ∧ 1 ≤ s.sync.inSyncCount ∧ s.env.reads = [.bytes 0x1C [0x64, 0x00, 0x42]] ∧
    decode s.par.crcTable (.wire .inbound [0x1C, 0x64, 0x00, 0x42]) = .ok (.rxCurrent 100) := by decide +kernel

theorem witness_TickRunsTheScheduledFrame :
    ((configured 0).cfg.paramsSet = true ∧ scheduledItem (configured 0).sync.outSync = some .maxCurrent) ∧
    ((configured 22).cfg.paramsSet = true ∧ scheduledItem (configured 22).sync.outSync = some .voltageCalibration) := by
  decide +kernel

theorem witness_FrameDecodeTestsTheFourthByte :
    fCurrent.b3 = crc8Block tbl [fCurrent.b0, fCurrent.b1, fCurrent.b2] ∧
    (⟨0x1C, 0x64, 0x00, 0x43⟩ : Quad).b3 ≠ crc8Block tbl [0x1C, 0x64, 0x00] := by decide +kernel

theorem witness_DefaultTableRejectsEverySingleBitFlip :
    validFrame crc8DefaultTable fCurrent = true ∧ 0 < 32 ∧ 31 < 32 := by decide +kernel

theorem witness_UnrecognizedFrameIsIgnored :
    let q : Quad := ⟨0x55, 0x34, 0x12, 0x62⟩
    [0, 1].all (fun n => let s := listening q.bytes n .wouldBlock
      decide (s.rx.buf = q.bytes ++ []) && validFrame s.par.crcTable q && decide (tagOfCode q.b0 = none)
        && decide (s.sync.inSyncCount ≤ 1)) = true := by decide +kernel

theorem witness_MatchingWindowIsDiscardedThenDecoded :
    (listening fCurrent.bytes 0 .wouldBlock).rx.buf = fCurrent.bytes ++ [] ∧
    validFrame (listening fCurrent.bytes 0 .wouldBlock).par.crcTable fCurrent = true ∧
    (listening fCurrent.bytes 0 .wouldBlock).sync.inSyncCount = 0 ∧
    1 ≤ (listening fCurrent.bytes 1 .wouldBlock).sync.inSyncCount := by decide +kernel

theorem witness_MismatchingWindowDropsOneByte :
    let q : Quad := ⟨0x1C, 0x64, 0x00, 0x43⟩
    let s := listening q.bytes 1 .wouldBlock
    s.rx.buf = q.bytes ++ [] ∧ q.b3 ≠ crc8Block s.par.crcTable [q.b0, q.b1, q.b2] := by decide +kernel

/-- A read that brings nothing, one that fills the room to the last byte, and the longest and the shortest ordinary one
behind three bytes left over. -/
theorem witness_PollIsOneResynchronizerRun :
    ReadFits State.reset ∧ ReadFits (listening [1, 2, 3] 0 (received (List.replicate 29 0))) ∧
    [.wouldBlock, received [0x42], received (List.replicate 28 0)].all (fun rx =>
      let s := listening [1, 2, 3] 1 rx
      decide ((rxBytes (nextRead s.env)).length ≤ s.par.rxCapacity - s.rx.buf.length)
        && decide (nextRead s.env ≠ .error)
        && decide (s.rx.buf.length + (rxBytes (nextRead s.env)).length ≠ s.par.rxCapacity)) = true := by
  unfold ReadFits
  decide +kernel

theorem witness_RunFailsFlushesOrDrainsAllBytes :
    let s := listening [1, 2, 3] 1 .wouldBlock
    (received (List.replicate 29 0) ≠ .error ∧
      s.rx.buf.length + (rxBytes (received (List.replicate 29 0))).length = s.par.rxCapacity) ∧
    (received (List.replicate 28 0) ≠ .error ∧
      s.rx.buf.length + (rxBytes (received (List.replicate 28 0))).length ≠ s.par.rxCapacity) ∧
    (RxResult.wouldBlock ≠ .error ∧ s.rx.buf.length + (rxBytes .wouldBlock).length ≠ s.par.rxCapacity) := by
  decide +kernel

/-- A frame in two reads, the second empty or not, with one read that brings the same bytes. -/
theorem witness_DrainingInPiecesEqualsDrainingAtOnce :
    [(received [0x1C, 0x64], received [0x00, 0x42]), (received fCurrent.bytes, .wouldBlock)].all (fun x =>
      let s := listening [] 1 .wouldBlock
      let bs := rxBytes x.1 ++ rxBytes x.2
      decide (x.1 ≠ .error) && decide (x.2 ≠ .error)
        && decide (s.rx.buf.length + (rxBytes x.1).length ≠ s.par.rxCapacity)
        && decide ((resyncRun x.1 s).state.rx.buf.length + (rxBytes x.2).length ≠ s.par.rxCapacity)
        && decide (received bs ≠ .error) && decide (rxBytes (received bs) = bs)
        && decide (s.rx.buf.length + bs.length ≠ s.par.rxCapacity)) = true := by decide +kernel

theorem witness_ReadBeyondRoomIsRefused :
    let s := { initializing 0 false 0 0 (received (List.replicate 33 0)) with rx := ⟨[]⟩ }
    s.par.rxCapacity - s.rx.buf.length < (rxBytes (nextRead s.env)).length ∧ s.ses.phase = .init := by decide +kernel

theorem witness_FullBufferIsFlushedUndecoded :
    let s := listening [1, 2, 3] 1 (received (List.replicate 29 0))
    nextRead s.env ≠ .error ∧ s.rx.buf.length + (rxBytes (nextRead s.env)).length = s.par.rxCapacity := by
  decide +kernel

theorem witness_FailedReadChangesNoRegister : nextRead (listening [1, 2, 3] 1 .error).env = .error := by decide +kernel

theorem witness_AtMostThreeBytesAreLeft : (listening [1, 2, 3] 0 .wouldBlock).rx.buf.length ≤ 3 := by decide +kernel

/-- The window of program P3 with one garbage byte, and no garbage at count 0. -/
theorem witness_GarbageThenTwoFramesDecodesTheSecond :
    let s := listening ([0x13] ++ (fVoltage.bytes ++ (fCurrent.bytes ++ []))) 1 .wouldBlock
    let t := listening ([] ++ (fVoltage.bytes ++ (fCurrent.bytes ++ []))) 0 .wouldBlock
    validFrame s.par.crcTable fVoltage = true ∧ validFrame s.par.crcTable fCurrent = true ∧
    (([0x13] : List Byte) ≠ [] ∨ s.sync.inSyncCount = 0) ∧ (([] : List Byte) ≠ [] ∨ t.sync.inSyncCount = 0) ∧
    (∀ (k : Nat) (w : Quad), k < 1 → (s.rx.buf.drop k).take 4 = w.bytes → validFrame s.par.crcTable w = false) := by
  refine ⟨by decide +kernel, by decide +kernel, by decide +kernel, by decide +kernel, ?_⟩
  rintro k ⟨b0, b1, b2, b3⟩ hk hw
  obtain rfl : k = 0 := by omega
  simp only [listening, fVoltage, fCurrent, Quad.bytes, List.drop_zero, List.cons_append, List.nil_append,
    List.take_succ_cons, List.take_zero, List.cons.injEq, and_true] at hw
  obtain ⟨rfl, rfl, rfl, rfl⟩ := hw
  decide +kernel

theorem witness_PollReportsMeetAsListed :
    completes .opPoll (listening [] 1 (received fCurrent.bytes)) = true ∧
    completes .opPoll (listening [] 1 .error) = true ∧
    completes .opPoll (listening [] 1 (received (List.replicate 32 0))) = true := by decide +kernel

theorem witness_TickWithoutItemOnlyAdvances :
    State.reset.cfg.paramsSet = false ∧ scheduledItem (configured 1).sync.outSync = none := by decide +kernel

theorem witness_NoParameterFrameBeforeConfiguration :
    (asked [.request ⟨7, []⟩]).cfg.paramsSet = false ∧ steps (asked [.request ⟨7, []⟩]) = true ∧
    scheduledItem (configured 0).sync.outSync = some .maxCurrent ∧
    scheduledItem (configured 22).sync.outSync = some .voltageCalibration := by decide +kernel

theorem witness_LimitsArePackedAsTruncatedHundredths : ConfigInRange cfgLow ∧ ConfigInRange cfgHigh := by decide +kernel

set_option synthInstance.maxSize 1000 in
/-- A negative and a positive fractional offset; offsets at both ends and 0. -/
theorem witness_BytePairsArePackedToTheirFields :
    ConfigInRange { cfgP2 with currentOffset := 27 / 10 } ∧ ConfigInRange cfgHigh ∧ ConfigInRange cfgLow ∧
    ConfigInRange { cfgP2 with currentOffset := 0, voltageOffset := 0 } := by decide +kernel

/-- V5.19, and the same offset above 0: both toward zero (R237, R12). -/
theorem test_fractional_offsets_toward_zero :
    (hi8 (packVoltageCalibration cfgP2)).toInt = -2 ∧
    (hi8 (packVoltageCalibration { cfgP2 with voltageOffset := 27 / 10 })).toInt = 2 := by decide +kernel

theorem witness_EchoedLimitIsWithinAHundredth :
    ConfigInRange { cfgP2 with maxCurrent := 1 / 3 } ∧ ConfigInRange cfgLow := by decide +kernel

theorem witness_AnyScheduleCycleOffersEveryItem :
    ((configured 0).cfg.paramsSet = true ∧ (configured 0).sync.outSync ≤ 22) ∧
    ((configured 22).cfg.paramsSet = true ∧ (configured 22).sync.outSync ≤ 22) := by decide +kernel

theorem witness_InitStepIsRefusedOutsideInit :
    [Phase.idle, .ready, .failedNoResponse, .failedSync].all (fun p =>
      decide (({ State.reset with ses := ⟨p, 0, false, 0⟩ } : State).ses.phase ≠ .init)) = true := by decide +kernel

/-- One state for each verdict of the cycle. -/
theorem witness_InitStepIsOneCycleAndItsVerdict :
    [initializing 0 false 0 0 .wouldBlock, initializing 2 false 0 0 .wouldBlock,
      initializing 19 true 19 1 (received fCurrent.bytes), initializing 24 true 0 0 (received [0x55])].all (fun s =>
      decide (s.ses.phase = .init) &&
        decide ((rxBytes (nextRead s.env)).length ≤ s.par.rxCapacity - s.rx.buf.length)) = true := by decide +kernel

/-- The smallest capacity and budgets with a read of the free room less three; and an answer too long for any room. -/
theorem witness_BlockingInitEndsWithinItsBudget :
    (listening [] 0 (received (List.replicate 33 0))).par.wf = true ∧
    let s := { listening [1, 2, 3] 1 (received [0x55, 0x55]) with
      par := { defaultParams with rxCapacity := 5, initNoResponseBudget := 19, initSyncBudget := 20 } }
    s.par.wf = true ∧ s.rx.buf.length ≤ 3 ∧ ∀ rx ∈ s.env.reads, (rxBytes rx).length + 3 ≤ s.par.rxCapacity := by
  decide +kernel

theorem witness_CommandPayloadIsClampedLinearTruncated :
    ((-1 : ℚ) ≤ 1) ∧ ((-1 : ℚ) ≤ -1) ∧ ((1 : ℚ) ≤ 1) ∧ ((-3 : ℚ) ≤ -1) ∧ ((1 : ℚ) ≤ 2) := by decide +kernel

theorem witness_SetConfigurationStoresClampedFields : ConfigInRange cfgLow ∧ ConfigInRange cfgHigh := by decide +kernel

theorem witness_SessionPhaseGatesNoOtherOperation :
    [Instr.opCommand 1, .opPoll, .opSetConfiguration cfgP2, .opFault, .opReset, .opDisengage, .opReprogram].all
      (fun i => completes i (listening [1, 2, 3] 1 (received [0x42]))) = true := by decide +kernel

theorem witness_StepWritesOnlyWhatTheTableAllows :
    [(⟨3, []⟩, Instr.opPoll), (⟨7, []⟩, .opDisengage), (⟨4, (configArgs cfgP2).map .rational⟩, .opSetConfiguration cfgP2),
      (⟨0, []⟩, .opInitialize), (⟨5, []⟩, .opFault)].all (fun x : Request × Instr =>
      decide ((asked [.request x.1]).port = [.request x.1]) && decide (decodeRequest x.1 = .ok x.2)
        && steps (asked [.request x.1])) = true := by decide +kernel

theorem witness_StepKeepsParametersAndExtendsHistory :
    steps (asked [.request ⟨2, [.rational 1]⟩]) = true ∧ steps State.reset = true := by decide +kernel

set_option synthInstance.maxSize 1000 in
theorem witness_EveryOfferedFrameIsProducible : Inv disengageHigh ∧ steps disengageHigh = true := by decide +kernel

theorem witness_WriteErrorIsReportedExactly :
    [Instr.opCommand (-1), .opDisengage, .opReset, .opReprogram].all
      (fun i => completes i { configured 0 with env := ⟨[], [.ok, .error]⟩ }) = true := by decide +kernel

end Sys2Proof.Tests
end

section
/-! The CRC8 engine (spec 40_crc8.md): the equations of one byte and of a block, for every table. -/

namespace Sys2Proof.Machine

/-- R131: one byte looks the table up at the exclusive or; a byte is always in range of the table (R66). -/
theorem crc8Byte_eq_getElem (tbl : Vector Byte 256) (c b : Byte) :
    crc8Byte tbl c b = tbl[(c ^^^ b).toNat]'(c ^^^ b).isLt := rfl

/-- R132: the fold starts at `CRC8_INIT`. -/
@[simp] theorem crc8Block_nil (tbl : Vector Byte 256) : crc8Block tbl [] = 0xFF := rfl

/-- R132: the fold consumes the bytes from first to last, so the last byte meets the CRC of all before it. -/
@[simp] theorem crc8Block_concat (tbl : Vector Byte 256) (bs : List Byte) (b : Byte) :
    crc8Block tbl (bs ++ [b]) = crc8Byte tbl (crc8Block tbl bs) b :=
  List.foldl_concat (crc8Byte tbl) Config.crc8Init b bs

/-- Settles O8: the lookup of one byte, and the two equations of the fold over a block. -/
theorem crcBlockFoldsTheTable : Obligations.CrcBlockFoldsTheTable := fun tbl =>
  ⟨crc8Byte_eq_getElem tbl, crc8Block_nil tbl, crc8Block_concat tbl⟩

end Sys2Proof.Machine
end

section
/-! The Frame Codec (spec 41_frame_codec.md): the layout of an encoded frame and the two answers of the decoder, for
every table. -/

namespace Sys2Proof.Machine

/-- R10: the low byte as a number reduced to eight bits. -/
theorem lo8_eq_ofNat (p : U16) : lo8 p = BitVec.ofNat 8 p.toNat := by
  apply BitVec.eq_of_toNat_eq
  rw [lo8_toNat, BitVec.toNat_ofNat]

/-- R10: the high byte as a quotient; the quotient of a 16-bit number by 256 already fits in eight bits. -/
theorem hi8_eq_ofNat (p : U16) : hi8 p = BitVec.ofNat 8 (p.toNat / 256) := by
  apply BitVec.eq_of_toNat_eq
  have hp := p.isLt
  rw [hi8_toNat, BitVec.toNat_ofNat]
  omega

/-- R150: the bytes of an encoded frame in stream order. -/
@[simp] theorem frameEncode_bytes (tbl : Vector Byte 256) (code : Byte) (value : U16) :
    (frameEncode tbl code value).bytes
      = [code, lo8 value, hi8 value, crc8Block tbl [code, lo8 value, hi8 value]] := rfl

/-- R92. -/
theorem validFrame_iff {tbl : Vector Byte 256} {q : Quad} :
    validFrame tbl q = true ↔ q.b3 = crc8Block tbl [q.b0, q.b1, q.b2] :=
  beq_iff_eq

/-- R151: a valid frame is answered with its code and its payload; the CRC byte is implied. -/
theorem frameDecode_of_valid {tbl : Vector Byte 256} {q : Quad} (h : validFrame tbl q = true) :
    frameDecode tbl q = some ⟨q.b0, cat16 q.b2 q.b1⟩ :=
  if_pos h

/-- R151: any other four bytes are answered with none. -/
theorem frameDecode_of_not_valid {tbl : Vector Byte 256} {q : Quad} (h : ¬ validFrame tbl q = true) :
    frameDecode tbl q = none :=
  if_neg h

/-- Settles O9: the two payload bytes, as numbers, are the remainder and the quotient by 256. -/
theorem frameEncodeLaysOutFourBytes : Obligations.FrameEncodeLaysOutFourBytes := by
  intro tbl code value
  rw [frameEncode_bytes, lo8_eq_ofNat, hi8_eq_ofNat]

/-- Settles O10: both answers of the decoder, split on the test of the fourth byte. -/
theorem frameDecodeTestsTheFourthByte : Obligations.FrameDecodeTestsTheFourthByte := by
  intro tbl q
  constructor
  · intro hcrc
    exact ⟨_, frameDecode_of_valid (validFrame_iff.mpr hcrc), rfl, cat16_toNat q.b2 q.b1⟩
  · intro hcrc
    exact frameDecode_of_not_valid (mt validFrame_iff.mp hcrc)

end Sys2Proof.Machine
end

section
/-! The Receive Resynchronizer (spec 42_resynchronizer.md): one turn of the drain on a window whose bytes are known, in
each of its three ways, and what the drain makes of it. -/

namespace Sys2Proof.Machine

open Sys2Proof.Claims

/-- R64: dropping bytes reads and writes the buffer alone. -/
theorem rxDrop_setSync (n : Nat) (s : State) (v : SyncState) : rxDrop n (s.setSync v) = (rxDrop n s).setSync v := rfl
theorem rxDrop_setDs (n : Nat) (s : State) (v : DeviceStatus) : rxDrop n (s.setDs v) = (rxDrop n s).setDs v := rfl

/-- R64: dropping the four bytes of a window leaves what stands behind them. -/
theorem rxDrop_window {s : State} {q : Quad} {rest : List Byte} (hb : s.rx.buf = q.bytes ++ rest) :
    rxDrop 4 s = s.setRx ⟨rest⟩ := by
  simp [rxDrop, hb, Quad.bytes]

/-- R64: dropping one byte of a window leaves its other three in front. -/
theorem rxDrop_one_window {s : State} {q : Quad} {rest : List Byte} (hb : s.rx.buf = q.bytes ++ rest) :
    rxDrop 1 s = s.setRx ⟨q.b1 :: q.b2 :: q.b3 :: rest⟩ := by
  simp [rxDrop, hb, Quad.bytes]

/-- R174 at count 0: the frame is consumed and confirms the alignment; it is not decoded. -/
theorem resyncTurn_of_valid_of_unsynced {s : State} {q : Quad} {rest : List Byte} (hb : s.rx.buf = q.bytes ++ rest)
    (hv : validFrame s.par.crcTable q = true) (hc : s.sync.inSyncCount = 0) :
    resyncTurn q s = ⟨(s.setRx ⟨rest⟩).setSync { s.sync with inSyncCount := 1 }, .empty⟩ := by
  have hmatch : resyncTurn q s = resyncMatch q s := if_pos hv
  rw [hmatch, resyncMatch, if_pos hc, rxDrop_setSync, rxDrop_window hb]

/-- R174 at any other count: the frame is consumed and decoded. -/
theorem resyncTurn_of_valid_of_synced {s : State} {q : Quad} {rest : List Byte} (hb : s.rx.buf = q.bytes ++ rest)
    (hv : validFrame s.par.crcTable q = true) (hc : s.sync.inSyncCount ≠ 0) :
    resyncTurn q s = ⟨(s.setRx ⟨rest⟩).setDs (telemDecode s.par q.b0 (cat16 q.b2 q.b1) s.ds).ds,
      (telemDecode s.par q.b0 (cat16 q.b2 q.b1) s.ds).report⟩ := by
  have hmatch : resyncTurn q s = resyncMatch q s := if_pos hv
  simp only [hmatch, resyncMatch, if_neg hc, rxDrop_setDs, rxDrop_window hb]

/-- R175: the alignment is given up, and the window moves on by one byte. -/
theorem resyncTurn_of_not_valid {s : State} {q : Quad} {rest : List Byte} (hb : s.rx.buf = q.bytes ++ rest)
    (hv : ¬ validFrame s.par.crcTable q = true) :
    resyncTurn q s
      = ⟨(s.setRx ⟨q.b1 :: q.b2 :: q.b3 :: rest⟩).setSync { s.sync with inSyncCount := 0 }, .empty⟩ := by
  have hmismatch : resyncTurn q s = resyncMismatch s := if_neg hv
  rw [hmismatch, resyncMismatch, rxDrop_setSync, rxDrop_one_window hb]

/-- R173: whatever the turn on the window does, the drain goes on from it. -/
theorem drainGoesOn_resyncTurn {s : State} {q : Quad} {rest : List Byte} (hb : s.rx.buf = q.bytes ++ rest) :
    DrainGoesOn s (resyncTurn q s) := by
  have hdrain := resyncDrain_turn (rxWindow_eq_some.mpr ⟨rest, hb⟩)
  exact ⟨by rw [hdrain], by rw [hdrain]⟩

/-- Settles O25: the two ways of the matching branch, split on the sync count. -/
theorem matchingWindowIsDiscardedThenDecoded : Obligations.MatchingWindowIsDiscardedThenDecoded := by
  intro s q rest hb hv
  refine ⟨fun hc => ?unsynced, fun hc => ?synced, drainGoesOn_resyncTurn hb⟩
  case unsynced => exact resyncTurn_of_valid_of_unsynced hb hv hc
  case synced => exact resyncTurn_of_valid_of_synced hb hv (Nat.one_le_iff_ne_zero.mp hc)

/-- Settles O26: a fourth byte other than the CRC of the first three is the mismatching branch. -/
theorem mismatchingWindowDropsOneByte : Obligations.MismatchingWindowDropsOneByte := by
  intro s q rest hb hcrc
  exact ⟨resyncTurn_of_not_valid hb (mt validFrame_iff.mp hcrc), drainGoesOn_resyncTurn hb⟩

end Sys2Proof.Machine
end

section
/-! The Telemetry Decoder (spec 43_telemetry_decoder.md): which operation an encoded frame is, what an accepted frame
leaves, and the scaled values as formulas over the payload as a number. -/

namespace Sys2Proof.Machine

open Sys2Proof.Claims

/-! ## The operation of an encoded frame -/

/-- R92: an encoded frame carries the CRC of its first three bytes. -/
@[simp] theorem validFrame_frameEncode (tbl : Vector Byte 256) (c : Byte) (v : U16) :
    validFrame tbl (frameEncode tbl c v) = true :=
  validFrame_iff.mpr rfl

/-- R152: decoding takes the code and the payload back out of an encoded frame. -/
@[simp] theorem frameDecode_frameEncode (tbl : Vector Byte 256) (c : Byte) (v : U16) :
    frameDecode tbl (frameEncode tbl c v) = some ⟨c, v⟩ := by
  rw [frameDecode_of_valid (validFrame_frameEncode tbl c v)]
  exact congrArg (fun p => some (Frame.mk c p)) (cat16_hi8_lo8 v)

/-- Four bytes that the Frame Codec accepts are the frame it answers. -/
theorem decodeFrame_of_frameDecode {tbl : Vector Byte 256} {q : Quad} {f : Frame} (h : frameDecode tbl q = some f) :
    decodeFrame tbl q.bytes = .ok f := by
  simp only [Quad.bytes, decodeFrame, h]

/-- R91: the code byte alone selects the operation of a received frame, for every table. -/
theorem decode_inbound_frameEncode (tbl : Vector Byte 256) (c : Byte) (v : U16) :
    decode tbl (.wire .inbound (frameEncode tbl c v).bytes) = .ok (selectRx c v) := by
  simp only [decode, decodeRx, decodeFrame_of_frameDecode (frameDecode_frameEncode tbl c v)]

/-- R97: the thirteen codes are distinct, so each one leads back to its own tag. -/
@[simp] theorem tagOfCode_rxCode (t : Tag) : tagOfCode (rxCode t) = some t := by
  cases t <;> decide

/-- R97: the code of a tag selects the operation of that tag. -/
theorem selectRx_rxCode (t : Tag) (v : U16) : selectRx (rxCode t) v = rxInstr t v := by
  simp only [selectRx, tagOfCode_rxCode]

/-- R98: the default row. -/
theorem selectRx_of_unrecognized {c : Byte} (h : tagOfCode c = none) (v : U16) :
    selectRx c v = .rxUnrecognized c v := by
  simp only [selectRx, h]

/-! ## What an accepted frame leaves -/

/-- R200: an accepted frame answers a next state that differs in Device Status and the outcome alone. -/
theorem acceptFrame_next (r : Decoded) (s : State) :
    ∃ s', acceptFrame r s = .next s' ∧ s'.ds = r.ds ∧
      s'.response = some ⟨.ok, r.report.tags, r.report.events, none⟩ ∧ KeepsAllButStatus s s' :=
  ⟨_, rfl, rfl, rfl, rfl, rfl, rfl, rfl, rfl, rfl, rfl, rfl⟩

/-- R201 to R205 and R207 to R213: every recognised frame but the flags only stores its payload under its tag; a flags
frame may raise a warning besides (R206). -/
theorem exec_rxInstr_of_ne_flags {t : Tag} (ht : t ≠ .flags) (v : U16) (s : State) :
    exec (rxInstr t v) s = acceptFrame (storeTag t v s.ds) s := by
  cases t with
  | flags => exact absurd rfl ht
  | _ => rfl

/-- R214: an unrecognised frame is accepted with Device Status as it was and an empty report. -/
theorem exec_rxUnrecognized (c : Byte) (v : U16) (s : State) :
    exec (.rxUnrecognized c v) s = acceptFrame ⟨s.ds, .empty⟩ s := rfl

/-- R214, as the Resynchronizer calls the decoder. -/
theorem telemDecode_of_unrecognized {c : Byte} (h : tagOfCode c = none) (p : Params) (v : U16) (d : DeviceStatus) :
    telemDecode p c v d = ⟨d, .empty⟩ := by
  simp only [telemDecode, h, rxUnrecognized]

/-- Every recognised frame but the flags is stored and tagged; what is left to show of one is the scaled value of the
register it writes, whatever the other registers hold. -/
theorem stores_rxInstr {t : Tag} (ht : t ≠ .flags) {view : U16 → DeviceStatus → Prop}
    (hview : ∀ d : DeviceStatus, view (d.get t) d) : Stores (rxInstr t) (rxCode t) t view := by
  constructor
  · intro tbl v
    rw [decode_inbound_frameEncode, selectRx_rxCode]
  · intro v s
    obtain ⟨s', hnext, hds, hresponse, hkeeps⟩ := acceptFrame_next (storeTag t v s.ds) s
    have hstored : s'.ds.get t = v := by
      rw [hds]
      exact s.ds.get_set_same t v
    have hothers : ∀ u, u ≠ t → s'.ds.get u = s.ds.get u := by
      intro u hu
      rw [hds]
      exact s.ds.get_set_other v hu
    have hscaled : view v s'.ds := hstored ▸ hview s'.ds
    exact ⟨s', (exec_rxInstr_of_ne_flags ht v s).trans hnext, hstored, hothers, hscaled, hresponse, hkeeps⟩

/-! ## The scaled values -/

/-- R11: the unsigned reading, as a rational. -/
@[simp] theorem zext_cast {w : Nat} (v : BitVec w) : (zext v : ℚ) = v.toNat :=
  Int.cast_natCast v.toNat

theorem hundredths_eq (p : U16) : hundredths p = (p.toNat : ℚ) / 100 := by
  rw [hundredths, zext_cast]

theorem signedHundredths_eq (p : U16) : signedHundredths p = (p.toInt : ℚ) / 100 := by
  rw [signedHundredths, sext16_eq_toInt]

theorem viewRudder_eq (d : DeviceStatus) :
    viewRudder d = if d.rudderRaw = 0xFFFF then .undefined else .fraction ((d.rudderRaw.toNat : ℚ) / 65472) := by
  rw [viewRudder, zext_cast]

theorem byteFraction_lo8 (p : U16) : byteFraction (lo8 p) = ((p.toNat % 256 : Nat) : ℚ) / 255 := by
  rw [byteFraction, zext_cast, lo8_toNat]

theorem byteFraction_hi8 (p : U16) : byteFraction (hi8 p) = ((p.toNat / 256 : Nat) : ℚ) / 255 := by
  rw [byteFraction, zext_cast, hi8_toNat]

/-- R25: a percentage is not negative, so rounding away from zero on a tie is the floor of a half more. -/
theorem slewPercent_eq_floor (b : Byte) : slewPercent b = ⌊(b.toNat : ℚ) * 100 / 255 + 1 / 2⌋ := by
  rw [slewPercent, zext_cast, roundStated, roundHaz_of_nonneg (by positivity)]

theorem slewPercent_lo8 (p : U16) : slewPercent (lo8 p) = ⌊((p.toNat % 256 : Nat) : ℚ) * 100 / 255 + 1 / 2⌋ := by
  rw [slewPercent_eq_floor, lo8_toNat]

theorem slewPercent_hi8 (p : U16) : slewPercent (hi8 p) = ⌊((p.toNat / 256 : Nat) : ℚ) * 100 / 255 + 1 / 2⌋ := by
  rw [slewPercent_eq_floor, hi8_toNat]

theorem calibrationFactor_lo8 (p : U16) :
    calibrationFactor (lo8 p) = 8 / 10 + ((p.toNat % 256 : Nat) : ℚ) * 16 / 10000 := by
  rw [calibrationFactor, zext_cast, lo8_toNat, mul_div_assoc]

theorem sext8_hi8 (p : U16) : sext8 (hi8 p) = (BitVec.ofNat 8 (p.toNat / 256)).toInt := by
  rw [sext8_eq_toInt, hi8_eq_ofNat]

/-! ## The statements -/

/-- Settles O19: each of the five is a stored tag, with its scaled value. -/
theorem measuredValueFramesAreStored : Obligations.MeasuredValueFramesAreStored := by
  refine ⟨?current, ?voltage, ?controllerTemp, ?motorTemp, ?rudder⟩
  case current => exact stores_rxInstr (t := .current) (by decide) fun d => hundredths_eq d.currentRaw
  case voltage => exact stores_rxInstr (t := .voltage) (by decide) fun d => hundredths_eq d.voltageRaw
  case controllerTemp =>
    exact stores_rxInstr (t := .controllerTemp) (by decide) fun d => signedHundredths_eq d.controllerTempRaw
  case motorTemp => exact stores_rxInstr (t := .motorTemp) (by decide) fun d => signedHundredths_eq d.motorTempRaw
  case rudder => exact stores_rxInstr (t := .rudder) (by decide) viewRudder_eq

/-- Settles O22: each of the four is a stored tag, with one scaled value of the low byte and one of the high byte. -/
theorem rangeAndCalibrationEchoesAreStored : Obligations.RangeAndCalibrationEchoesAreStored := by
  refine ⟨?rudderRange, ?maxSlew, ?currentCalibration, ?voltageCalibration⟩
  case rudderRange =>
    exact stores_rxInstr (t := .rudderRange) (by decide) fun d =>
      ⟨byteFraction_lo8 d.rudderRangeRaw, byteFraction_hi8 d.rudderRangeRaw⟩
  case maxSlew =>
    exact stores_rxInstr (t := .maxSlew) (by decide) fun d =>
      ⟨slewPercent_lo8 d.maxSlewRaw, slewPercent_hi8 d.maxSlewRaw⟩
  case currentCalibration =>
    exact stores_rxInstr (t := .currentCalibration) (by decide) fun d =>
      ⟨calibrationFactor_lo8 d.currentCalRaw, sext8_hi8 d.currentCalRaw⟩
  case voltageCalibration =>
    exact stores_rxInstr (t := .voltageCalibration) (by decide) fun d =>
      ⟨calibrationFactor_lo8 d.voltageCalRaw, sext8_hi8 d.voltageCalRaw⟩

/-- R174 and R214: a turn on a valid frame with an unrecognised code consumes it and leaves the count at 1. At count 0
that confirms the alignment; at count 1 the decoder ignores the frame and the count stays. -/
theorem resyncTurn_of_unrecognized {s : State} {q : Quad} {rest : List Byte} (hb : s.rx.buf = q.bytes ++ rest)
    (hv : validFrame s.par.crcTable q = true) (ht : tagOfCode q.b0 = none) (hc : s.sync.inSyncCount ≤ 1) :
    resyncTurn q s = ⟨(s.setRx ⟨rest⟩).setSync { s.sync with inSyncCount := 1 }, .empty⟩ := by
  obtain hzero | hone := Nat.le_one_iff_eq_zero_or_eq_one.mp hc
  · exact resyncTurn_of_valid_of_unsynced hb hv hzero
  · have hds : (s.setRx ⟨rest⟩).setDs s.ds = s.setRx ⟨rest⟩ := State.setDs_self (s.setRx ⟨rest⟩)
    have hsync : (s.setRx ⟨rest⟩).setSync { s.sync with inSyncCount := 1 } = s.setRx ⟨rest⟩ := by
      rw [← hone]
      exact State.setSync_self (s.setRx ⟨rest⟩)
    rw [resyncTurn_of_valid_of_synced hb hv (by omega), telemDecode_of_unrecognized ht, hds, hsync]

/-- Settles O23: the decoding, the operation by itself, and the turn of the drain. -/
theorem unrecognizedFrameIsIgnored : Obligations.UnrecognizedFrameIsIgnored := by
  refine ⟨?decoded, ?executed, ?drained⟩
  case decoded =>
    intro tbl c v hc
    rw [decode_inbound_frameEncode, selectRx_of_unrecognized hc]
  case executed =>
    intro c v s
    rw [exec_rxUnrecognized]
    exact acceptFrame_next ⟨s.ds, .empty⟩ s
  case drained =>
    intro s q rest hb hv ht hc
    have hturn := resyncTurn_of_unrecognized hb hv ht hc
    exact ⟨congrArg Drained.state hturn, congrArg Drained.report hturn⟩

end Sys2Proof.Machine
end

section
/-! The Parameter Scheduler (spec 44_param_scheduler.md): the schedule table, and which codes the shared operations, the
host operations and a step offer to the device. -/

namespace Sys2Proof.Machine

/-- Settles O35: the table evaluated at its 23 slots. -/
theorem scheduleTableIsAsPrinted : Obligations.ScheduleTableIsAsPrinted := rfl

/-! ## The codes offered on the way from one state to another -/

/-- The history of `t` extends that of `s` by events whose offers have exactly the codes `cs`, oldest first (R74). -/
def OffersCodes (s t : State) (cs : List Byte) : Prop :=
  ∃ es, t.hist = s.hist ++ es ∧ offeredCodes es = cs

theorem offeredCodes_append (a b : List IoEvent) : offeredCodes (a ++ b) = offeredCodes a ++ offeredCodes b := by
  rw [offeredCodes, offers_append, List.map_append]
  rfl

/-- What `OffersCodes` says, in the terms of the statements. -/
theorem OffersCodes.offeredCodes_newEvents {s t : State} {cs : List Byte} (h : OffersCodes s t cs) :
    offeredCodes (newEvents s t) = cs := by
  obtain ⟨es, hhist, hcodes⟩ := h
  rw [newEvents, hhist, List.drop_left, hcodes]

/-- One event more in the history offers the codes of that event. -/
theorem OffersCodes.of_hist_concat {s t : State} {e : IoEvent} (h : t.hist = s.hist ++ [e]) :
    OffersCodes s t (offeredCodes [e]) :=
  ⟨[e], h, rfl⟩

theorem OffersCodes.of_hist_eq {s t : State} (h : t.hist = s.hist) : OffersCodes s t [] :=
  ⟨[], by rw [h, List.append_nil], rfl⟩

theorem OffersCodes.trans {s t u : State} {cs ds : List Byte} (hst : OffersCodes s t cs) (htu : OffersCodes t u ds) :
    OffersCodes s u (cs ++ ds) := by
  obtain ⟨es, hes, rfl⟩ := hst
  obtain ⟨fs, hfs, rfl⟩ := htu
  exact ⟨es ++ fs, by rw [hfs, hes, List.append_assoc], offeredCodes_append es fs⟩

/-! ## The shared operations -/

/-- R65: a frame is offered once. -/
theorem sendFrame_offersCodes (k : TxKind) (v : U16) (s : State) :
    OffersCodes s (sendFrame k v s).state [txCode k] :=
  .of_hist_concat (t := (sendFrame k v s).state) rfl

/-- R302: a frame by itself is one offer and an outcome. -/
theorem offerFrame_offersCodes {k : TxKind} {v : U16} {s s' : State} (h : offerFrame k v s = .next s') :
    OffersCodes s s' [txCode k] := by
  cases h
  exact sendFrame_offersCodes k v s

/-- R239: a tick with the guard clear offers nothing. -/
theorem schedStep_offersCodes_of_guard_clear {s : State} (hguard : s.cfg.paramsSet = false) :
    OffersCodes s (schedStep s).state [] := by
  obtain ⟨_, htick⟩ | ⟨k, hset, _, _⟩ := schedStep_cases s
  · rw [htick]
    exact .of_hist_eq rfl
  · rw [hset] at hguard
    contradiction

/-- R231: a tick with the guard set offers the item of its slot. -/
theorem schedStep_offersCodes_of_item {s : State} {k : TxKind} (hguard : s.cfg.paramsSet = true)
    (hitem : scheduledItem s.sync.outSync = some k) : OffersCodes s (schedStep s).state [txCode k] := by
  obtain ⟨hnone, _⟩ | ⟨j, _, hslot, htick⟩ := schedStep_cases s
  · simp [hguard, hitem] at hnone
  · obtain rfl : j = k := Option.some.inj (hslot.symm.trans hitem)
    rw [htick]
    exact sendFrame_offersCodes j (ownPayload s.par s.cfg.values j) s

/-- With the guard clear, a tick and the frame after it offer that frame alone. -/
theorem schedStep_sendFrame_offersCodes {s : State} (hguard : s.cfg.paramsSet = false) (k : TxKind) (v : U16) :
    OffersCodes s (sendFrame k v (schedStep s).state).state [txCode k] :=
  (schedStep_offersCodes_of_guard_clear hguard).trans (sendFrame_offersCodes k v (schedStep s).state)

/-- R61: a read offers nothing. -/
theorem rxRead_offersCodes {s : State} {d : ReadDone} (h : rxRead s = .ok d) : OffersCodes s d.state [] := by
  obtain ⟨_, hread⟩ | ⟨_, hread⟩ := rxRead_cases s <;> rw [hread] at h <;> cases h
  exact .of_hist_concat (e := .read (rxRoom s) (nextRead s.env)) rfl

/-- R74: taking a call from the port and recording its beginning offers nothing. -/
theorem began_offersCodes (s : State) (rest : List Call) (i : Instr) :
    OffersCodes s ((s.setPort rest).setHist (s.hist ++ [.began i])) [] :=
  .of_hist_concat (e := .began i) rfl

/-- A read and the run of the Resynchronizer on its answer offer nothing. -/
theorem rxRead_resyncRun_offersCodes {s t : State} {rx rx' : RxResult} (h : rxRead s = .ok ⟨rx, t⟩) :
    OffersCodes s (resyncRun rx' t).state [] :=
  (rxRead_offersCodes h).trans (.of_hist_eq (resyncRun_frame rx' t).hist)

/-! ## The host operations -/

/-- The command frames a host operation sends itself, apart from the item its scheduler tick may serve (R262, R270, R285
to R287). -/
def commandsSent : Instr → List TxKind
  | .opInitStep => [.command]
  | .opCommand _ => [.command]
  | .opReset => [.reset]
  | .opDisengage => [.disengage]
  | .opReprogram => [.reprogram]
  | _ => []

/-- The four frames that are no parameter frame. -/
def commandKinds : List TxKind := [.command, .reset, .reprogram, .disengage]

theorem commandsSent_subset (i : Instr) : commandsSent i ⊆ commandKinds := by
  intro k hk
  unfold commandsSent at hk
  split at hk <;> simp_all [commandKinds]

/-- R96: the codes of the four command frames. -/
theorem commandKinds_map_txCode : commandKinds.map txCode = [0xC7, 0xE7, 0x19, 0x68] := rfl

/-- With the guard clear, a host operation offers its own command frames and nothing else. -/
theorem exec_offersCodes_of_guard_clear {o : BitVec 4} {qs : List ℚ} {i : Instr} {s s' : State}
    (hop : selectOp o qs = some i) (h : exec i s = .next s') (hguard : s.cfg.paramsSet = false) :
    OffersCodes s s' ((commandsSent i).map txCode) := by
  rcases selectOp_cases hop with ⟨_, _, rfl⟩ | ⟨_, _, rfl⟩ | ⟨value, _, _, rfl⟩ | ⟨_, _, rfl⟩ | ⟨args, _, _, rfl⟩ |
    ⟨_, _, rfl⟩ | ⟨_, _, rfl⟩ | ⟨_, _, rfl⟩ | ⟨_, _, rfl⟩
  · -- `INITIALIZE`
    cases h
    exact .of_hist_eq rfl
  · -- `INIT_STEP`
    obtain ⟨_, w, t, rfl, hread, rfl⟩ := execOpInitStep_next h
    exact (schedStep_sendFrame_offersCodes hguard .command neutralPayload).trans (rxRead_resyncRun_offersCodes hread)
  · -- `COMMAND`
    cases h
    exact schedStep_sendFrame_offersCodes hguard .command (commandPayload value)
  · -- `POLL`
    obtain ⟨t, hread, rfl⟩ := execOpPoll_next h
    exact rxRead_resyncRun_offersCodes hread
  · -- `SET_CONFIGURATION`
    cases h
    exact .of_hist_eq rfl
  · -- `FAULT`
    cases h
    exact .of_hist_eq rfl
  · -- `RESET`
    exact offerFrame_offersCodes (k := .reset) (v := s.par.resetPayload) h
  · -- `DISENGAGE`
    cases h
    exact schedStep_sendFrame_offersCodes hguard .disengage s.par.disengagePayload
  · -- `REPROGRAM`
    exact offerFrame_offersCodes (k := .reprogram) (v := s.par.reprogramPayload) h

/-- With the guard clear, a step offers command frames alone: an idle step none, a running one those of its operation. -/
theorem step_offersCodes_of_guard_clear {s s' : State} (hguard : s.cfg.paramsSet = false) (h : step s = .next s') :
    ∃ cs, OffersCodes s s' cs ∧ cs ⊆ commandKinds.map txCode := by
  obtain ⟨_, ⟨_, hidle⟩ | ⟨r, rest, i, _, hdecode, hexec⟩⟩ := step_cases h
  · exact ⟨[], .of_hist_eq (congrArg State.hist hidle), List.nil_subset _⟩
  · obtain ⟨qs, _, hop⟩ := decodeRequest_selects hdecode
    have hrun := exec_offersCodes_of_guard_clear hop hexec hguard
    exact ⟨_, (began_offersCodes s rest i).trans hrun, List.map_subset txCode (commandsSent_subset i)⟩

/-- R275: a configuration sets the guard and leaves the schedule where it stands. -/
theorem exec_opSetConfiguration (a : ConfigValues) (s : State) :
    exec (.opSetConfiguration a) s = .next (respondStatus .ok (s.setCfg ⟨clampConfig a, true⟩)) := rfl

/-- Settles O38: with the guard clear a step offers command codes alone; a configuration sets the guard, so the tick
after it offers the item of its slot. -/
theorem noParameterFrameBeforeConfiguration : Obligations.NoParameterFrameBeforeConfiguration := by
  refine ⟨?guardClear, ?firstTick⟩
  case guardClear =>
    intro s s' hguard hstep
    obtain ⟨cs, hoffers, hcodes⟩ := step_offersCodes_of_guard_clear hguard hstep
    rw [hoffers.offeredCodes_newEvents, ← commandKinds_map_txCode]
    exact hcodes
  case firstTick =>
    intro a s k hitem
    refine ⟨_, exec_opSetConfiguration a s, ?_⟩
    exact OffersCodes.offeredCodes_newEvents (schedStep_offersCodes_of_item rfl hitem)

end Sys2Proof.Machine
end

section
/-! The Device Session (spec 45_device_session.md): the poll as one run of the Resynchronizer, the fault query, and the
operations that send a frame by itself or behind a scheduler tick. -/

namespace Sys2Proof.Machine

open Sys2Proof.Claims

/-! ## No link error among the warnings -/

/-- Neither of the two link errors, which `INIT_STEP` alone may put into its event set (R14). -/
def Events.NoLinkError (e : Events) : Prop := e.ioReadError = false ∧ e.ioWriteError = false

theorem Events.NoLinkError.union {a b : Events} (ha : a.NoLinkError) (hb : b.NoLinkError) :
    (a.union b).NoLinkError := by
  obtain ⟨hreadA, hwriteA⟩ := ha
  obtain ⟨hreadB, hwriteB⟩ := hb
  exact ⟨by simp [Events.union, hreadA, hreadB], by simp [Events.union, hwriteA, hwriteB]⟩

/-- R206: the decoder raises at most the invalid-packet warning. -/
theorem telemDecode_events (p : Params) (c : Byte) (v : U16) (d : DeviceStatus) :
    (telemDecode p c v d).report.events = .none ∨ (telemDecode p c v d).report.events = .onlyInvalidPacket := by
  cases htag : tagOfCode c with
  | none =>
    rw [telemDecode_of_unrecognized htag]
    exact .inl rfl
  | some t =>
    cases t with
    | flags =>
      have hflags : telemDecode p c v d = rxFlags p v d := by simp only [telemDecode, htag]
      rw [hflags, rxFlags]
      cases invalidPacketFlag p v
      · exact .inl rfl
      · exact .inr rfl
    | _ =>
      left
      simp only [telemDecode, htag]
      rfl

theorem telemDecode_noLinkError (p : Params) (c : Byte) (v : U16) (d : DeviceStatus) :
    (telemDecode p c v d).report.events.NoLinkError := by
  obtain hevents | hevents := telemDecode_events p c v d <;> rw [hevents] <;> exact ⟨rfl, rfl⟩

theorem resyncTurn_noLinkError (q : Quad) (s : State) : (resyncTurn q s).report.events.NoLinkError := by
  obtain ⟨_, hturn⟩ | ⟨_, _, hturn⟩ | ⟨_, _, hturn⟩ := resyncTurn_cases q s <;> rw [hturn]
  · exact ⟨rfl, rfl⟩
  · exact ⟨rfl, rfl⟩
  · exact telemDecode_noLinkError s.par q.b0 (cat16 q.b2 q.b1) s.ds

theorem resyncLoop_noLinkError (fuel : Nat) (s : State) {r : Report} (hr : r.events.NoLinkError) :
    (resyncLoop fuel s r).report.events.NoLinkError := by
  induction fuel generalizing s r with
  | zero => exact hr
  | succ n ih =>
    cases hwindow : rxWindow s with
    | none =>
      rw [resyncLoop_stop (rxWindow_eq_none.mp hwindow)]
      exact hr
    | some q =>
      rw [resyncLoop_turn hwindow]
      exact ih _ (hr.union (resyncTurn_noLinkError q s))

/-- R170: the report of a run names no link error; a failed read shows in the status alone. -/
theorem resyncRun_noLinkError (rx : RxResult) (s : State) : (resyncRun rx s).report.events.NoLinkError := by
  obtain ⟨_, hrun⟩ | ⟨_, _, hrun⟩ | ⟨_, _, hrun⟩ := resyncRun_cases rx s <;> rw [hrun]
  · exact ⟨rfl, rfl⟩
  · exact ⟨rfl, rfl⟩
  · exact resyncLoop_noLinkError _ _ ⟨rfl, rfl⟩

/-! ## The poll -/

theorem resyncRun_status_mem (rx : RxResult) (s : State) : (resyncRun rx s).status ∈ [Status.ok, .ioReadError] := by
  obtain ⟨_, hrun⟩ | ⟨_, _, hrun⟩ | ⟨_, _, hrun⟩ := resyncRun_cases rx s <;> rw [hrun]
  · exact .tail _ (.head _)
  · exact .head _
  · exact .head _

/-- R173: on an ordinary read, a run drains the bytes left over followed by the bytes read. -/
theorem resyncRun_of_ordinary {rx : RxResult} {s : State} (hrx : rx ≠ .error)
    (hlen : s.rx.buf.length + (rxBytes rx).length ≠ s.par.rxCapacity) :
    resyncRun rx s = ⟨.ok, (resyncDrain (s.setRx ⟨s.rx.buf ++ rxBytes rx⟩)).report,
      (resyncDrain (s.setRx ⟨s.rx.buf ++ rxBytes rx⟩)).state⟩ := by
  obtain ⟨herror, _⟩ | ⟨_, hfull, _⟩ | ⟨_, _, hrun⟩ := resyncRun_cases rx s
  · exact absurd herror hrx
  · exact absurd hfull hlen
  · exact hrun

/-- R61: a read that keeps to the room is answered. -/
theorem rxRead_of_readFits {s : State} (hfits : ReadFits s) : rxRead s = .ok ⟨nextRead s.env, afterRead s⟩ := by
  obtain ⟨_, hread⟩ | ⟨hbeyond, _⟩ := rxRead_cases s
  · exact hread
  · exact absurd hfits (Nat.not_le.mpr hbeyond)

/-- R271: a poll whose read keeps to the room returns what one run on that read reports. -/
theorem exec_opPoll_of_readFits {s : State} (hfits : ReadFits s) :
    exec .opPoll s = .next (respondReport (resyncRun (nextRead s.env) (afterRead s)).status
      (resyncRun (nextRead s.env) (afterRead s)).report (resyncRun (nextRead s.env) (afterRead s)).state) := by
  have hpoll : exec .opPoll s = execOpPoll s := rfl
  rw [hpoll, execOpPoll, rxRead_of_readFits hfits]

/-- R74: a read is recorded, and is no offer. -/
theorem offers_afterRead (s : State) : offers (afterRead s).hist = offers s.hist := by
  have hhist : (afterRead s).hist = s.hist ++ [.read (s.par.rxCapacity - s.rx.buf.length) (nextRead s.env)] := rfl
  rw [hhist, offers_append]
  exact List.append_nil _

/-- Settles O27: the poll is the run after the read; the run keeps its frame, names no link error, and on an ordinary
read is the drain. -/
theorem pollIsOneResynchronizerRun : Obligations.PollIsOneResynchronizerRun := by
  refine ⟨rfl, fun s hfits => ?_⟩
  have hframe := resyncRun_frame (nextRead s.env) (afterRead s)
  obtain ⟨hnoReadError, hnoWriteError⟩ := resyncRun_noLinkError (nextRead s.env) (afterRead s)
  have hoffers : offers (resyncRun (nextRead s.env) (afterRead s)).state.hist = offers s.hist := by
    rw [hframe.hist, offers_afterRead]
  refine ⟨_, exec_opPoll_of_readFits hfits, rfl, rfl, rfl, rfl, resyncRun_status_mem _ _, hnoReadError, hnoWriteError,
    hframe.hist, hoffers, hframe.outSync, hframe.par, hframe.cfg, hframe.ses, hframe.port, hframe.env, ?ordinary⟩
  case ordinary =>
    rintro _ rfl hrx hlen
    have hrun := resyncRun_of_ordinary (s := afterRead s) hrx hlen
    rw [hrun]
    exact ⟨rfl, rfl, rfl, rfl⟩

/-! ## The fault query -/

/-- R26: the overcurrent test as a proposition. -/
theorem overcurrent_eq_decide (p : Params) (flags : U16) :
    overcurrent p flags = decide (flags &&& p.overcurrentMask ≠ 0) := by
  rw [overcurrent, Bool.eq_iff_iff, bne_iff_ne, decide_eq_true_iff]

/-- R283: the query returns the test and leaves the state. -/
theorem exec_opFault (s : State) :
    exec .opFault s = .next (respond ⟨.ok, 0, .none, some (overcurrent s.par s.ds.flags)⟩ s) := rfl

/-- Settles O50: the query, with the overcurrent test written out. -/
theorem faultReportsTheOvercurrentBit : Obligations.FaultReportsTheOvercurrentBit := by
  refine ⟨rfl, fun s => ?_⟩
  rw [exec_opFault, overcurrent_eq_decide]
  rfl

/-! ## The operations that send -/

/-- R302: with one write, the status follows its answer. -/
theorem writeStatus_ok (a : WriteAnswer) : writeStatus a .ok = answered a := by
  cases a <;> rfl

/-- R65 and R302: an operation that is one frame by itself offers that frame only. -/
theorem offersOnly_of_exec_eq_offerFrame {i : Instr} {k : TxKind} {v : U16} {s : State}
    (hexec : exec i s = offerFrame k v s) : OffersOnly i s (frameEncode s.par.crcTable (txCode k) v) := by
  refine ⟨_, hexec, rfl, rfl, ?status, rfl, rfl, rfl, rfl, rfl, rfl, rfl, rfl⟩
  case status =>
    rw [← writeStatus_ok]
    rfl

/-- R286 and R302: an operation that is one tick and then one frame attempts both writes and keeps every register but
the schedule's slot. -/
theorem ticksThenSends_of_exec_eq {i : Instr} {k : TxKind} {v : U16} {s : State}
    (hexec : exec i s = .next (scheduleThenSend k v s)) : TicksThenSends i s (txCode k) v := by
  have htick := schedStep_frame s
  refine ⟨_, hexec, ?offered, htick.sync, rfl, htick.reads, rfl, htick.par, htick.rx, htick.ds, htick.cfg, htick.ses,
    htick.port⟩
  case offered =>
    rw [← htick.par]
    rfl

/-- Settles O51: each of the two is one frame by itself. -/
theorem resetAndReprogramSendOneFrameEach : Obligations.ResetAndReprogramSendOneFrameEach := by
  refine ⟨rfl, rfl, fun s => ⟨?reset, ?reprogram⟩⟩
  case reset => exact offersOnly_of_exec_eq_offerFrame (k := .reset) rfl
  case reprogram => exact offersOnly_of_exec_eq_offerFrame (k := .reprogram) rfl

/-- Settles O52: a disengage is one tick and then its frame. -/
theorem disengageTicksThenSendsItsFrame : Obligations.DisengageTicksThenSendsItsFrame :=
  ⟨rfl, fun _ => ticksThenSends_of_exec_eq (k := .disengage) rfl⟩

end Sys2Proof.Machine
end

section
/-! The Receive Resynchronizer (spec 42_resynchronizer.md): the whole drain, by induction over its turns, the three ways
of a run, and the polls that make one. -/

namespace Sys2Proof.Machine

open Sys2Proof.Claims

/-! ## The drain -/

/-- R173 as an induction: a drain stops on fewer than four bytes, or goes on behind a turn, which leaves a shorter
buffer. -/
theorem resyncDrain_induction {P : State → Prop} (stop : ∀ s, s.rx.buf.length < 4 → P s)
    (turn : ∀ s q, rxWindow s = some q → P (resyncTurn q s).state → P s) (s : State) : P s :=
  match h : rxWindow s with
  | none => stop s (rxWindow_eq_none.mp h)
  | some q => turn s q h (resyncDrain_induction stop turn (resyncTurn q s).state)
termination_by s.rx.buf.length
decreasing_by exact resyncTurn_shortens h

theorem resyncDrain_length_le (s : State) : (resyncDrain s).state.rx.buf.length ≤ 3 := by
  induction s using resyncDrain_induction with
  | stop s hshort =>
    rw [resyncDrain_stop hshort]
    exact Nat.le_of_lt_succ hshort
  | turn s q hwindow ih =>
    rw [resyncDrain_turn hwindow]
    exact ih

/-- R174 and R175: a turn sets the sync count to 0 or 1, or keeps it. -/
theorem resyncTurn_inSyncCount_le (q : Quad) {s : State} (hcount : s.sync.inSyncCount ≤ 1) :
    (resyncTurn q s).state.sync.inSyncCount ≤ 1 := by
  obtain ⟨_, hturn⟩ | ⟨_, _, hturn⟩ | ⟨_, _, hturn⟩ := resyncTurn_cases q s <;> rw [hturn]
  · exact Nat.zero_le 1
  · exact Nat.le_refl 1
  · exact hcount

theorem resyncDrain_inSyncCount_le (s : State) (hcount : s.sync.inSyncCount ≤ 1) :
    (resyncDrain s).state.sync.inSyncCount ≤ 1 := by
  induction s using resyncDrain_induction with
  | stop s hshort =>
    rw [resyncDrain_stop hshort]
    exact hcount
  | turn s q hwindow ih =>
    rw [resyncDrain_turn hwindow]
    exact ih (resyncTurn_inSyncCount_le q hcount)

theorem resyncTurn_overflow (q : Quad) (s : State) : (resyncTurn q s).report.events.overflow = false := by
  obtain ⟨_, hturn⟩ | ⟨_, _, hturn⟩ | ⟨_, _, hturn⟩ := resyncTurn_cases q s <;> rw [hturn]
  · rfl
  · rfl
  · obtain hevents | hevents := telemDecode_events s.par q.b0 (cat16 q.b2 q.b1) s.ds <;> rw [hevents] <;> rfl

/-- R172: only the flush reports an overflow, never the drain. -/
theorem resyncDrain_overflow (s : State) : (resyncDrain s).report.events.overflow = false := by
  induction s using resyncDrain_induction with
  | stop s hshort =>
    rw [resyncDrain_stop hshort]
    rfl
  | turn s q hwindow ih =>
    rw [resyncDrain_turn hwindow]
    exact Bool.or_eq_false_iff.mpr ⟨resyncTurn_overflow q s, ih⟩

/-! ## Draining in pieces -/

/-- A turn looks at its window alone: bytes that arrive behind the window are still there after it. -/
theorem resyncTurn_resyncAppend {q : Quad} {s : State} (hwindow : rxWindow s = some q) (cs : List Byte) :
    resyncTurn q (resyncAppend cs s) = ⟨resyncAppend cs (resyncTurn q s).state, (resyncTurn q s).report⟩ := by
  obtain ⟨rest, hbuf⟩ := rxWindow_eq_some.mp hwindow
  have hbuf' : (resyncAppend cs s).rx.buf = q.bytes ++ (rest ++ cs) :=
    (congrArg (· ++ cs) hbuf).trans (List.append_assoc ..)
  by_cases hvalid : validFrame s.par.crcTable q = true
  · by_cases hcount : s.sync.inSyncCount = 0
    · rw [resyncTurn_of_valid_of_unsynced hbuf hvalid hcount, resyncTurn_of_valid_of_unsynced hbuf' hvalid hcount]
      rfl
    · rw [resyncTurn_of_valid_of_synced hbuf hvalid hcount, resyncTurn_of_valid_of_synced hbuf' hvalid hcount]
      rfl
  · rw [resyncTurn_of_not_valid hbuf hvalid, resyncTurn_of_not_valid hbuf' hvalid]
    rfl

/-- A drain may be run first on what stands in the buffer, and again once more bytes have been appended. -/
theorem resyncDrain_resyncAppend (cs : List Byte) (s : State) :
    resyncDrain (resyncAppend cs s) = ⟨(resyncDrain (resyncAppend cs (resyncDrain s).state)).state,
      (resyncDrain s).report.union (resyncDrain (resyncAppend cs (resyncDrain s).state)).report⟩ := by
  induction s using resyncDrain_induction with
  | stop s hshort => rw [resyncDrain_stop hshort, Report.empty_union]
  | turn s q hwindow ih =>
    obtain ⟨rest, hbuf⟩ := rxWindow_eq_some.mp hwindow
    have hwindow' : rxWindow (resyncAppend cs s) = some q :=
      rxWindow_eq_some.mpr ⟨rest ++ cs, (congrArg (· ++ cs) hbuf).trans (List.append_assoc ..)⟩
    rw [resyncDrain_turn hwindow', resyncTurn_resyncAppend hwindow, ih, resyncDrain_turn hwindow, Report.union_assoc]

theorem resyncAppend_append (bs cs : List Byte) (s : State) :
    resyncAppend (bs ++ cs) s = resyncAppend cs (resyncAppend bs s) :=
  congrArg (fun buf => s.setRx ⟨buf⟩) (List.append_assoc s.rx.buf bs cs).symm

/-! ## Garbage in front of a frame -/

/-- R175 repeated: bytes none of whose windows is valid are dropped one by one, and the count is 0 behind them; with no
such byte it has to be 0 already. Three bytes behind the garbage are enough for its last window. -/
theorem resyncDrain_garbage {g tail : List Byte} {s : State} (hbuf : s.rx.buf = g ++ tail) (htail : 3 ≤ tail.length)
    (hstart : g ≠ [] ∨ s.sync.inSyncCount = 0)
    (hgarbage : ∀ (k : Nat) (w : Quad), k < g.length → (s.rx.buf.drop k).take 4 = w.bytes →
      validFrame s.par.crcTable w = false) :
    resyncDrain s = resyncDrain ((s.setRx ⟨tail⟩).setSync { s.sync with inSyncCount := 0 }) := by
  induction g generalizing s with
  | nil =>
    have hcount : s.sync.inSyncCount = 0 := hstart.resolve_left (fun h => h rfl)
    have hself : (s.setRx ⟨tail⟩).setSync { s.sync with inSyncCount := 0 } = s := by
      rw [← hcount, ← List.nil_append tail, ← hbuf]
      rfl
    rw [hself]
  | cons b g ih =>
    have hlength : ¬ s.rx.buf.length < 4 := by
      rw [hbuf, List.length_append, List.length_cons]
      omega
    cases hwindow : rxWindow s with
    | none => exact absurd (rxWindow_eq_none.mp hwindow) hlength
    | some q =>
      obtain ⟨rest, hq⟩ := rxWindow_eq_some.mp hwindow
      have hinvalid : validFrame s.par.crcTable q = false :=
        hgarbage 0 q (Nat.zero_lt_succ _) (by rw [hq]; rfl)
      have hbehind : q.b1 :: q.b2 :: q.b3 :: rest = g ++ tail :=
        List.tail_eq_of_cons_eq (hq.symm.trans hbuf)
      have hturn := resyncTurn_of_not_valid hq (Bool.eq_false_iff.mp hinvalid)
      rw [resyncDrain_turn hwindow, hturn, hbehind, Report.empty_union]
      refine ih rfl (.inr rfl) fun k w hk hw => hgarbage (k + 1) w (Nat.succ_lt_succ hk) ?_
      rw [hbuf]
      exact hw

/-- R174 twice: from count 0 the first of two valid frames confirms the alignment and the second is decoded. -/
theorem resyncDrain_two_frames {s : State} {f1 f2 : Quad} {rest : List Byte}
    (hbuf : s.rx.buf = f1.bytes ++ (f2.bytes ++ rest)) (hcount : s.sync.inSyncCount = 0)
    (h1 : validFrame s.par.crcTable f1 = true) (h2 : validFrame s.par.crcTable f2 = true) :
    DrainGoesOn s ⟨((s.setRx ⟨rest⟩).setSync { s.sync with inSyncCount := 1 }).setDs
        (telemDecode s.par f2.b0 (cat16 f2.b2 f2.b1) s.ds).ds,
      (telemDecode s.par f2.b0 (cat16 f2.b2 f2.b1) s.ds).report⟩ := by
  have hfirst := drainGoesOn_resyncTurn hbuf
  rw [resyncTurn_of_valid_of_unsynced hbuf h1 hcount] at hfirst
  obtain ⟨hstate, hreport⟩ := hfirst
  have hbuf2 : ((s.setRx ⟨f2.bytes ++ rest⟩).setSync { s.sync with inSyncCount := 1 }).rx.buf = f2.bytes ++ rest := rfl
  have hsecond := drainGoesOn_resyncTurn hbuf2
  rw [resyncTurn_of_valid_of_synced hbuf2 h2 Nat.one_ne_zero] at hsecond
  obtain ⟨hstate2, hreport2⟩ := hsecond
  exact ⟨hstate.trans hstate2, by rw [hreport, hreport2, Report.empty_union]; rfl⟩

/-- Settles O32: the garbage is dropped, then the two frames are taken from count 0. -/
theorem garbageThenTwoFramesDecodesTheSecond : Obligations.GarbageThenTwoFramesDecodesTheSecond := by
  rintro s g rest f1 f2 hbuf h1 h2 hstart hgarbage _ rfl
  have htail : 3 ≤ (f1.bytes ++ (f2.bytes ++ rest)).length := by
    simp only [Quad.bytes, List.length_append, List.length_cons]
    omega
  rw [resyncDrain_garbage hbuf htail hstart hgarbage]
  exact resyncDrain_two_frames rfl rfl h1 h2

/-! ## The run -/

/-- R179: a failed read changes nothing. -/
theorem resyncRun_error (s : State) : resyncRun .error s = ⟨.ioReadError, .empty, s⟩ := if_pos rfl

/-- R172: a read that fills the buffer empties it. -/
theorem resyncRun_of_full {rx : RxResult} {s : State} (hrx : rx ≠ .error)
    (hlen : s.rx.buf.length + (rxBytes rx).length = s.par.rxCapacity) :
    resyncRun rx s = ⟨.ok, ⟨0, .onlyOverflow⟩, s.setRx ⟨[]⟩⟩ := by
  obtain ⟨herror, _⟩ | ⟨_, _, hrun⟩ | ⟨_, hother, _⟩ := resyncRun_cases rx s
  · exact absurd herror hrx
  · exact hrun
  · exact absurd hlen hother

/-- Settles O58: the three ways of a run. -/
theorem runFailsFlushesOrDrainsAllBytes : Obligations.RunFailsFlushesOrDrainsAllBytes := by
  intro rx s
  refine ⟨?fails, resyncRun_of_full, resyncRun_of_ordinary⟩
  case fails =>
    rintro rfl
    exact resyncRun_error s

/-- A run leaves at most three bytes, when no more were left before it. -/
theorem resyncRun_length_le (rx : RxResult) {s : State} (hlen : s.rx.buf.length ≤ 3) :
    (resyncRun rx s).state.rx.buf.length ≤ 3 := by
  obtain ⟨_, hrun⟩ | ⟨_, _, hrun⟩ | ⟨_, _, hrun⟩ := resyncRun_cases rx s <;> rw [hrun]
  · exact hlen
  · exact Nat.zero_le 3
  · exact resyncDrain_length_le _

/-- Settles O31: the bound after a drain, and after a run. -/
theorem atMostThreeBytesAreLeft : Obligations.AtMostThreeBytesAreLeft :=
  ⟨resyncDrain_length_le, fun rx _ => resyncRun_length_le rx⟩

theorem resyncRun_inSyncCount_le (rx : RxResult) {s : State} (hcount : s.sync.inSyncCount ≤ 1) :
    (resyncRun rx s).state.sync.inSyncCount ≤ 1 := by
  obtain ⟨_, hrun⟩ | ⟨_, _, hrun⟩ | ⟨_, _, hrun⟩ := resyncRun_cases rx s <;> rw [hrun]
  · exact hcount
  · exact hcount
  · exact resyncDrain_inSyncCount_le _ hcount

/-- Two ordinary runs are one drain of the bytes of both reads. -/
theorem resyncDrain_eq_of_two_runs {s : State} {rx1 rx2 : RxResult} (h1 : rx1 ≠ .error) (h2 : rx2 ≠ .error)
    (hlen1 : s.rx.buf.length + (rxBytes rx1).length ≠ s.par.rxCapacity)
    (hlen2 : (resyncRun rx1 s).state.rx.buf.length + (rxBytes rx2).length ≠ s.par.rxCapacity) :
    (resyncRun rx1 s).status = .ok ∧ (resyncRun rx2 (resyncRun rx1 s).state).status = .ok ∧
      resyncDrain (s.setRx ⟨s.rx.buf ++ (rxBytes rx1 ++ rxBytes rx2)⟩)
        = ⟨(resyncRun rx2 (resyncRun rx1 s).state).state,
          (resyncRun rx1 s).report.union (resyncRun rx2 (resyncRun rx1 s).state).report⟩ := by
  have hpar : (resyncRun rx1 s).state.par = s.par := (resyncRun_frame rx1 s).par
  have hsecond := resyncRun_of_ordinary h2 (hpar.symm ▸ hlen2)
  have hfirst := resyncRun_of_ordinary h1 hlen1
  have hdrain := resyncDrain_resyncAppend (rxBytes rx2) (resyncAppend (rxBytes rx1) s)
  rw [← resyncAppend_append] at hdrain
  rw [hsecond, hfirst]
  exact ⟨rfl, rfl, hdrain⟩

/-- Settles O33: the drain after an append, once for two drains and once for the drains of two ordinary runs. -/
theorem drainingInPiecesEqualsDrainingAtOnce : Obligations.DrainingInPiecesEqualsDrainingAtOnce := by
  refine ⟨?drains, ?runs⟩
  case drains =>
    intro s bs cs
    rw [resyncAppend_append, resyncDrain_resyncAppend]
    exact ⟨rfl, rfl⟩
  case runs =>
    rintro s rx1 rx2 _ _ _ rfl rfl rfl h1 h2 hlen1 hlen2
    obtain ⟨hok1, hok2, hdrain⟩ := resyncDrain_eq_of_two_runs h1 h2 hlen1 hlen2
    refine ⟨hok1, hok2, by rw [hdrain], by rw [hdrain], fun rx hrx hbytes hlen => ?_⟩
    rw [resyncRun_of_ordinary hrx (hbytes ▸ hlen), hbytes, hdrain]

/-! ## The poll -/

/-- R271 as an inversion: a poll that answers has read within the room. -/
theorem exec_opPoll_next {s s' : State} (h : exec .opPoll s = .next s') :
    ReadFits s ∧ s' = respondReport (resyncRun (nextRead s.env) (afterRead s)).status
      (resyncRun (nextRead s.env) (afterRead s)).report (resyncRun (nextRead s.env) (afterRead s)).state := by
  obtain ⟨t, hread, _⟩ := execOpPoll_next h
  obtain ⟨hfits, _⟩ | ⟨_, hrefused⟩ := rxRead_cases s
  · have hfits : ReadFits s := hfits
    exact ⟨hfits, by rw [exec_opPoll_of_readFits hfits] at h; exact (Host.Outcome.next.inj h).symm⟩
  · rw [hrefused] at hread
    cases hread

/-- Settles O30: a failed read brings no byte, so it fits, and the run on it changes nothing. -/
theorem failedReadChangesNoRegister : Obligations.FailedReadChangesNoRegister := by
  intro s herror
  have hfits : ReadFits s := by
    rw [ReadFits, herror]
    exact Nat.zero_le _
  have hpoll := exec_opPoll_of_readFits hfits
  rw [herror, resyncRun_error] at hpoll
  exact ⟨_, hpoll, rfl, rfl, rfl, rfl, rfl, rfl, rfl⟩

/-- Settles O29: a read that fills the buffer fits the room exactly, and the run on it is the flush. -/
theorem fullBufferIsFlushedUndecoded : Obligations.FullBufferIsFlushedUndecoded := by
  intro s hrx hfull
  have hfits : ReadFits s := Nat.le_sub_of_add_le' hfull.le
  have hpoll := exec_opPoll_of_readFits hfits
  rw [resyncRun_of_full (s := afterRead s) hrx hfull] at hpoll
  exact ⟨_, hpoll, rfl, rfl, rfl, rfl, rfl, rfl, rfl⟩

/-- Settles O34: the three ways of the run, none of which names a link error; a failed read and a flush decode nothing,
and a drain reports no overflow. -/
theorem pollReportsMeetAsListed : Obligations.PollReportsMeetAsListed := by
  intro s s' hpoll
  obtain ⟨_, rfl⟩ := exec_opPoll_next hpoll
  obtain ⟨hnoReadError, hnoWriteError⟩ := resyncRun_noLinkError (nextRead s.env) (afterRead s)
  refine ⟨_, rfl, rfl, ?_⟩
  obtain ⟨_, hrun⟩ | ⟨_, _, hrun⟩ | ⟨_, _, hrun⟩ := resyncRun_cases (nextRead s.env) (afterRead s) <;>
    rw [hrun] at hnoReadError hnoWriteError ⊢
  case inl =>
    exact ⟨.inr rfl, hnoReadError, hnoWriteError, fun _ => ⟨rfl, rfl, rfl⟩, nofun⟩
  case inr.inl =>
    exact ⟨.inl rfl, hnoReadError, hnoWriteError, nofun, fun _ => ⟨rfl, rfl, rfl⟩⟩
  case inr.inr =>
    have hno := resyncDrain_overflow (resyncAppend (rxBytes (nextRead s.env)) (afterRead s))
    exact ⟨.inl rfl, hnoReadError, hnoWriteError, nofun,
      fun hoverflow => absurd hoverflow (Bool.eq_false_iff.mp hno)⟩

end Sys2Proof.Machine
end

section
/-! The Parameter Scheduler (spec 44_param_scheduler.md): the outbound operation of each frame kind, the packed payloads
as numbers with their ranges, and the 23 ticks of a cycle. -/

namespace Sys2Proof.Machine

open Sys2Proof.Claims

/-! ## The outbound operations -/

/-- R96: the eleven codes are distinct, so each one leads back to its own frame. -/
@[simp] theorem kindOfCode_txCode (k : TxKind) : kindOfCode (txCode k) = some k := by
  cases k <;> decide

/-- R91 and R96: the code of an outbound frame selects its operation, for every table. -/
theorem decode_outbound_frameEncode (tbl : Vector Byte 256) (k : TxKind) (v : U16) :
    decode tbl (.wire .outbound (frameEncode tbl (txCode k) v).bytes) = .ok (txInstr k v) := by
  simp only [decode, decodeTx, decodeFrame_of_frameDecode (frameDecode_frameEncode tbl (txCode k) v), kindOfCode_txCode]

/-- R65: each outbound operation offers its frame. -/
theorem exec_txInstr (k : TxKind) (v : U16) (s : State) : exec (txInstr k v) s = offerFrame k v s := by
  cases k <;> rfl

theorem offersFrame_txInstr (k : TxKind) : OffersFrame (txInstr k) (txCode k) :=
  ⟨fun tbl v => decode_outbound_frameEncode tbl k v, fun v s => offersOnly_of_exec_eq_offerFrame (exec_txInstr k v s)⟩

/-- Settles O37: each of the eleven by its kind. -/
theorem outboundFramesAreOfferedOnce : Obligations.OutboundFramesAreOfferedOnce :=
  ⟨offersFrame_txInstr .command, offersFrame_txInstr .reset, offersFrame_txInstr .maxCurrent,
   offersFrame_txInstr .maxControllerTemp, offersFrame_txInstr .maxMotorTemp, offersFrame_txInstr .rudderRange,
   offersFrame_txInstr .reprogram, offersFrame_txInstr .disengage, offersFrame_txInstr .maxSlew,
   offersFrame_txInstr .currentCalibration, offersFrame_txInstr .voltageCalibration⟩

/-! ## One tick -/

/-- R231 and R239: a tick with nothing to serve. -/
theorem schedStep_of_no_item {s : State} (h : s.cfg.paramsSet = false ∨ scheduledItem s.sync.outSync = none) :
    schedStep s = ⟨.ok, s.setSync { s.sync with outSync := (s.sync.outSync + 1) % 23 }⟩ := by
  obtain ⟨_, htick⟩ | ⟨k, hset, hitem, _⟩ := schedStep_cases s
  · exact htick
  · simp [hset, hitem] at h

/-- R231: a tick that serves the item of its slot. -/
theorem schedStep_of_item {s : State} {k : TxKind} (hguard : s.cfg.paramsSet = true)
    (hitem : scheduledItem s.sync.outSync = some k) :
    schedStep s = ⟨nextWrite s.env, (sendFrame k (ownPayload s.par s.cfg.values k) s).state.setSync
      { s.sync with outSync := (s.sync.outSync + 1) % 23 }⟩ := by
  obtain ⟨hnone, _⟩ | ⟨j, _, hslot, htick⟩ := schedStep_cases s
  · simp [hguard, hitem] at hnone
  · obtain rfl : j = k := Option.some.inj (hslot.symm.trans hitem)
    exact htick

/-- Settles O36. -/
theorem tickWithoutItemOnlyAdvances : Obligations.TickWithoutItemOnlyAdvances :=
  fun _ => schedStep_of_no_item

/-- Settles O7: the outbound operation is the offer of the tick, with an outcome besides. -/
theorem tickRunsTheScheduledFrame : Obligations.TickRunsTheScheduledFrame := by
  intro s k hguard hitem
  refine ⟨_, exec_txInstr k (ownPayload s.par s.cfg.values k) s, ?_⟩
  rw [schedStep_of_item hguard hitem, ← writeStatus_ok]
  exact ⟨rfl, rfl⟩

/-! ## The packed fields as numbers -/

/-- R12 and R94: a quantity in the range of a `U16` field is packed as its floor. -/
theorem u16Field_roundSilent_toNat {q : ℚ} (h0 : 0 ≤ q) (h1 : q ≤ 65535) :
    ((u16Field (roundSilent q)).toNat : ℤ) = ⌊q⌋ := by
  have hfloor : ⌊q⌋ ≤ 65535 := by exact_mod_cast (Int.floor_le q).trans h1
  rw [roundSilent, trunc_of_nonneg h0, u16Field_toNat (Int.floor_nonneg.mpr h0) hfloor]

/-- R12 and R93: a quantity in the range of a byte field, where no rounding is named. -/
theorem byteField_roundSilent_toNat {q : ℚ} (h0 : 0 ≤ q) (h1 : q ≤ 255) :
    ((byteField (roundSilent q)).toNat : ℤ) = ⌊q⌋ := by
  have hfloor : ⌊q⌋ ≤ 255 := by exact_mod_cast (Int.floor_le q).trans h1
  rw [roundSilent, trunc_of_nonneg h0, byteField_toNat (Int.floor_nonneg.mpr h0) hfloor]

/-- R12 and R93: a quantity in the range of a byte field, where it is said to be rounded. -/
theorem byteField_roundStated_toNat {q : ℚ} (h0 : 0 ≤ q) (h1 : q ≤ 255) :
    ((byteField (roundStated q)).toNat : ℤ) = ⌊q + 1 / 2⌋ := by
  have hfloor : ⌊q + 1 / 2⌋ ≤ 255 := by
    rw [← Int.lt_add_one_iff, Int.floor_lt]
    push_cast
    linarith
  rw [roundStated, roundHaz_of_nonneg h0, byteField_toNat (Int.floor_nonneg.mpr (by linarith)) hfloor]

/-- R11 and R12: a quantity in the range of a signed byte is packed toward zero. -/
theorem tc8_roundSilent_toInt {q : ℚ} (h0 : -128 ≤ q) (h1 : q ≤ 127) :
    (tc8 (roundSilent q)).toInt = if 0 ≤ q then ⌊q⌋ else ⌈q⌉ := by
  obtain ⟨hlow, hhigh⟩ := trunc_between (lo := -128) (hi := 127) (by decide) (by decide) (by exact_mod_cast h0)
    (by exact_mod_cast h1)
  rw [roundSilent, tc8_toInt hlow hhigh]
  split
  · next hpos => exact trunc_of_nonneg hpos
  · next hneg => exact trunc_of_nonpos (not_le.mp hneg).le

/-- R237 and R238: the low byte of a calibration is the factor in steps of 0.0016 above 0.8. -/
theorem lo8_packCalibration_toNat {factor offset : ℚ} (h : Between (8 / 10) factor (12 / 10)) :
    ((lo8 (packCalibration factor offset)).toNat : ℤ) = ⌊(factor - 8 / 10) * 625 + 1 / 2⌋ := by
  obtain ⟨hlow, hhigh⟩ := h
  have hsteps : (factor - 8 / 10) / (16 / 10000) = (factor - 8 / 10) * 625 := by ring
  rw [packCalibration, lo8_cat16, hsteps, byteField_roundStated_toNat (by linarith) (by linarith)]

/-- R237 and R238: the high byte of a calibration is the offset as a signed byte. -/
theorem hi8_packCalibration_toInt {factor offset : ℚ} (h : Between (-128) offset 127) :
    (hi8 (packCalibration factor offset)).toInt = if 0 ≤ offset then ⌊offset⌋ else ⌈offset⌉ := by
  rw [packCalibration, hi8_cat16, tc8_roundSilent_toInt h.1 h.2]

/-- Settles O39: each limit in hundredths fits a `U16` field. -/
theorem limitsArePackedAsTruncatedHundredths : Obligations.LimitsArePackedAsTruncatedHundredths := by
  rintro c ⟨⟨hcurrent0, hcurrent1⟩, ⟨hcontroller0, hcontroller1⟩, ⟨hmotor0, hmotor1⟩, _⟩
  exact ⟨u16Field_roundSilent_toNat (by linarith) (by linarith), u16Field_roundSilent_toNat (by linarith) (by linarith),
    u16Field_roundSilent_toNat (by linarith) (by linarith)⟩

/-- Settles O40: each byte by the packing of its field. -/
theorem bytePairsArePackedToTheirFields : Obligations.BytePairsArePackedToTheirFields := by
  rintro c ⟨_, _, _, ⟨hmin0, hmin1⟩, ⟨hmax0, hmax1⟩, ⟨hfast0, hfast1⟩, ⟨hslow0, hslow1⟩, hcurrentFactor, hcurrentOffset,
    hvoltageFactor, hvoltageOffset⟩
  refine ⟨?rudderMin, ?rudderMax, ?slewFast, ?slewSlow, lo8_packCalibration_toNat hcurrentFactor,
    hi8_packCalibration_toInt hcurrentOffset, lo8_packCalibration_toNat hvoltageFactor,
    hi8_packCalibration_toInt hvoltageOffset⟩
  case rudderMin => rw [packRudderRange, lo8_cat16, byteField_roundSilent_toNat (by linarith) (by linarith)]
  case rudderMax => rw [packRudderRange, hi8_cat16, byteField_roundSilent_toNat (by linarith) (by linarith)]
  case slewFast => rw [packMaxSlew, lo8_cat16, byteField_roundStated_toNat (by linarith) (by linarith)]
  case slewSlow => rw [packMaxSlew, hi8_cat16, byteField_roundStated_toNat (by linarith) (by linarith)]

/-- The hundredths of a truncated limit are less than a hundredth below it. -/
theorem limit_sub_hundredths {x : ℚ} {p : U16} (h : (p.toNat : ℤ) = ⌊x * 100⌋) :
    0 ≤ x - hundredths p ∧ x - hundredths p < 1 / 100 := by
  have hcast : (p.toNat : ℚ) = ⌊x * 100⌋ := by exact_mod_cast h
  have hlow := Int.floor_le (x * 100)
  have hhigh := Int.lt_floor_add_one (x * 100)
  rw [hundredths_eq, hcast]
  constructor <;> linarith

/-- Settles O41: the register holds the packed limit, whose hundredths the view reads. -/
theorem echoedLimitIsWithinAHundredth : Obligations.EchoedLimitIsWithinAHundredth := by
  intro c d hc
  obtain ⟨hcurrent, hcontroller, hmotor⟩ := limitsArePackedAsTruncatedHundredths c hc
  exact ⟨limit_sub_hundredths hcurrent, limit_sub_hundredths hcontroller, limit_sub_hundredths hmotor⟩

/-! ## The ranges of the packed payloads -/

/-- R96: a limit from `lo` to `hi` leaves as a payload of `100 * lo` to `100 * hi`. -/
theorem toNat_between_of_hundredths {x : ℚ} {p : U16} {lo hi : ℕ} (h : (p.toNat : ℤ) = ⌊x * 100⌋)
    (hx : Between lo x hi) : lo * 100 ≤ p.toNat ∧ p.toNat ≤ hi * 100 := by
  obtain ⟨hlow, hhigh⟩ := hx
  have h1 : ((lo * 100 : ℕ) : ℤ) ≤ ⌊x * 100⌋ := Int.le_floor.mpr (by push_cast; linarith)
  have h2 : ⌊x * 100⌋ ≤ ((hi * 100 : ℕ) : ℤ) := by
    have hle : (⌊x * 100⌋ : ℚ) ≤ ((hi * 100 : ℕ) : ℚ) := (Int.floor_le _).trans (by push_cast; linarith)
    exact_mod_cast hle
  omega

/-- R96: the factor byte of a calibration is at most 250. -/
theorem lo8_packCalibration_le {factor offset : ℚ} (h : Between (8 / 10) factor (12 / 10)) :
    (lo8 (packCalibration factor offset)).toNat ≤ 250 := by
  have hbyte := lo8_packCalibration_toNat (offset := offset) h
  have hfloor : ⌊(factor - 8 / 10) * 625 + 1 / 2⌋ < 251 := by
    rw [Int.floor_lt]
    push_cast
    linarith [h.2]
  omega

/-- R96: with a configuration in range, the payload the link core packs for a kind is one the table allows. -/
theorem ownPayload_producible {c : ConfigValues} (hc : ConfigInRange c) (p : Params) (k : TxKind) :
    payloadProducible p k (ownPayload p c k) = true := by
  obtain ⟨hcurrent, hcontroller, hmotor⟩ := limitsArePackedAsTruncatedHundredths c hc
  obtain ⟨hcurrentRange, hcontrollerRange, hmotorRange, _, _, _, _, hcurrentFactor, _, hvoltageFactor, _⟩ := hc
  cases k with
  | maxCurrent => exact decide_eq_true (toNat_between_of_hundredths (lo := 0) (hi := 60) hcurrent hcurrentRange).2
  | maxControllerTemp =>
    obtain ⟨hlow, hhigh⟩ := toNat_between_of_hundredths (lo := 30) (hi := 80) hcontroller hcontrollerRange
    exact Bool.and_eq_true_iff.mpr ⟨decide_eq_true hlow, decide_eq_true hhigh⟩
  | maxMotorTemp =>
    obtain ⟨hlow, hhigh⟩ := toNat_between_of_hundredths (lo := 30) (hi := 80) hmotor hmotorRange
    exact Bool.and_eq_true_iff.mpr ⟨decide_eq_true hlow, decide_eq_true hhigh⟩
  | currentCalibration => exact decide_eq_true (lo8_packCalibration_le hcurrentFactor)
  | voltageCalibration => exact decide_eq_true (lo8_packCalibration_le hvoltageFactor)
  | command | rudderRange | maxSlew => rfl
  | reset | reprogram | disengage => exact beq_self_eq_true _

/-! ## A cycle of ticks -/

/-- The codes of the items that `n` ticks serve from a slot on. -/
def cycleCodes : Nat → Nat → List Byte
  | 0, _ => []
  | n + 1, slot => ((scheduledItem slot).map txCode).toList ++ cycleCodes n ((slot + 1) % 23)

/-- With the guard set, a tick offers the item of its slot, if there is one. -/
theorem schedStep_offersCodes {s : State} (hguard : s.cfg.paramsSet = true) :
    OffersCodes s (schedStep s).state ((scheduledItem s.sync.outSync).map txCode).toList := by
  cases hitem : scheduledItem s.sync.outSync with
  | none =>
    rw [schedStep_of_no_item (.inr hitem)]
    exact .of_hist_eq rfl
  | some k => exact schedStep_offersCodes_of_item hguard hitem

theorem ticks_offersCodes (n : Nat) {s : State} (hguard : s.cfg.paramsSet = true) :
    OffersCodes s (ticks n s) (cycleCodes n s.sync.outSync) := by
  induction n generalizing s with
  | zero => exact .of_hist_eq rfl
  | succ n ih =>
    have htick := schedStep_frame s
    have hrest := ih (htick.cfg.symm ▸ hguard)
    rw [htick.sync] at hrest
    exact (schedStep_offersCodes hguard).trans hrest

/-- R231: `n` ticks move the counter by `n` around the 23 slots and leave the sync count. -/
theorem ticks_sync (n : Nat) {s : State} (hslot : s.sync.outSync ≤ 22) :
    (ticks n s).sync = { s.sync with outSync := (s.sync.outSync + n) % 23 } := by
  induction n generalizing s with
  | zero => rw [Nat.add_zero, Nat.mod_eq_of_lt (Nat.lt_succ_of_le hslot), ticks]
  | succ n ih =>
    have htick := schedStep_frame s
    have hrest := ih (s := (schedStep s).state) (by rw [htick.sync]; exact Nat.le_of_lt_succ (Nat.mod_lt _ (by decide)))
    rw [ticks, hrest, htick.sync, Nat.mod_add_mod, Nat.add_right_comm, Nat.add_assoc]

/-- R230: the table over one whole cycle, from each of its slots. -/
theorem cycleCodes_full : ∀ slot ≤ 22, (cycleCodes 23 slot).length = 9 ∧ (cycleCodes 23 slot).count 0x1E = 3 ∧
    ∀ c ∈ [(0xA4 : Byte), 0x5A, 0xB6, 0x71, 0xDB, 0x4E], (cycleCodes 23 slot).count c = 1 := by
  decide +kernel

/-- Settles O42: the counter comes back after 23 ticks, and the codes offered are those of one cycle of the table. -/
theorem anyScheduleCycleOffersEveryItem : Obligations.AnyScheduleCycleOffersEveryItem := by
  intro s hguard hslot
  refine ⟨?slot, ?codes⟩
  case slot => rw [ticks_sync 23 hslot, Nat.add_mod_right, Nat.mod_eq_of_lt (Nat.lt_succ_of_le hslot)]
  case codes =>
    rw [(ticks_offersCodes 23 hguard).offeredCodes_newEvents]
    exact cycleCodes_full s.sync.outSync hslot

end Sys2Proof.Machine
end

section
/-! Decoding and encoding (spec 30_encoding.md with 41_frame_codec.md): the round trip of a frame, the words and the
code spaces, and that decoding answers exactly the encoded operations. -/

namespace Sys2Proof.Machine

/-! ## The round trip of a frame -/

/-- R152: a valid frame is the encoding of its own fields. -/
theorem frameEncode_of_valid {tbl : Vector Byte 256} {q : Quad} (h : validFrame tbl q = true) :
    frameEncode tbl q.b0 (cat16 q.b2 q.b1) = q := by
  rw [frameEncode, lo8_cat16, hi8_cat16, ← validFrame_iff.mp h]

/-- Settles O11: a decoded frame is valid, and an encoded one decodes. -/
theorem frameDecodeInvertsEncode : Obligations.FrameDecodeInvertsEncode := by
  intro tbl q f
  constructor
  · intro hdecode
    by_cases hvalid : validFrame tbl q = true
    · rw [frameDecode_of_valid hvalid] at hdecode
      cases hdecode
      exact (frameEncode_of_valid hvalid).symm
    · rw [frameDecode_of_not_valid hvalid] at hdecode
      cases hdecode
  · rintro rfl
    exact frameDecode_frameEncode tbl f.code f.payload

/-- Settles O12: the fourth byte that passes is the CRC of the three. -/
theorem exactlyOneFourthByteIsValid : Obligations.ExactlyOneFourthByteIsValid := fun tbl b0 b1 b2 =>
  ⟨crc8Block tbl [b0, b1, b2], validFrame_iff.mpr rfl, fun _ => validFrame_iff.mp⟩

/-! ## The frame word -/

/-- R91: the value of a frame word, its first byte the least significant. -/
theorem frameWord_toNat (q : Quad) :
    (frameWord q).toNat = q.b0.toNat + q.b1.toNat * 2 ^ 8 + q.b2.toNat * 2 ^ 16 + q.b3.toNat * 2 ^ 24 := by
  have happend : ∀ {n m : Nat} (x : BitVec n) (y : BitVec m), (x ++ y).toNat = x.toNat * 2 ^ m + y.toNat := by
    intro n m x y
    rw [BitVec.toNat_append, ← Nat.shiftLeft_add_eq_or_of_lt y.isLt, Nat.shiftLeft_eq]
  rw [frameWord, happend, happend, happend]
  omega

/-- A slice of a word as a number (R10). -/
theorem extractLsb'_toNat_eq {w : Nat} (x : BitVec w) (start len : Nat) :
    (x.extractLsb' start len).toNat = x.toNat / 2 ^ start % 2 ^ len := by
  rw [BitVec.extractLsb'_toNat, Nat.shiftRight_eq_div_pow]

/-- R91: splitting a frame word gives its bytes back. -/
theorem quadOfWord_frameWord (q : Quad) : quadOfWord (frameWord q) = q := by
  have h0 := q.b0.isLt
  have h1 := q.b1.isLt
  have h2 := q.b2.isLt
  have h3 := q.b3.isLt
  have hbyte : ∀ (start : Nat) (b : Byte), (frameWord q).toNat / 2 ^ start % 2 ^ 8 = b.toNat →
      (frameWord q).extractLsb' start 8 = b := by
    intro start b h
    exact BitVec.eq_of_toNat_eq ((extractLsb'_toNat_eq _ start 8).trans h)
  rw [frameWord_toNat] at hbyte
  rw [quadOfWord, hbyte 0 q.b0 (by omega), hbyte 8 q.b1 (by omega), hbyte 16 q.b2 (by omega), hbyte 24 q.b3 (by omega)]

/-- Settles O13. -/
theorem frameWordHoldsTheFields : Obligations.FrameWordHoldsTheFields := by
  intro q
  refine ⟨quadOfWord_frameWord q, frameWord_toNat q, BitVec.eq_of_toNat_eq ?_⟩
  have h0 := q.b0.isLt
  have h1 := q.b1.isLt
  have h2 := q.b2.isLt
  rw [extractLsb'_toNat_eq, frameWord_toNat, cat16_toNat]
  omega

/-! ## The code spaces -/

/-- R97: the tag of a code, as the inverse of the code of a tag. -/
theorem tagOfCode_eq_some {c : Byte} {t : Tag} : tagOfCode c = some t ↔ c = rxCode t := by
  constructor
  · intro h
    have hcode : (rxCode t == c) = true := List.find?_some (p := fun u => rxCode u == c) h
    exact (beq_iff_eq.mp hcode).symm
  · rintro rfl
    exact tagOfCode_rxCode t

/-- R96: the outbound frame of a code, as the inverse of the code of a frame. -/
theorem kindOfCode_eq_some {c : Byte} {k : TxKind} : kindOfCode c = some k ↔ c = txCode k := by
  constructor
  · intro h
    have hcode : (txCode k == c) = true := List.find?_some (p := fun j => txCode j == c) h
    exact (beq_iff_eq.mp hcode).symm
  · rintro rfl
    exact kindOfCode_txCode k

/-- Settles O18: the table, its inverse, the count of the codes outside it, and the four of R96 among those. -/
theorem inboundCodesAreTheThirteen : Obligations.InboundCodesAreTheThirteen := by
  refine ⟨rfl, fun _ _ => tagOfCode_eq_some, by decide +kernel, ?outboundOnly⟩
  case outboundOnly =>
    have hnone : ∀ c ∈ [(0xC7 : Byte), 0xE7, 0x19, 0x68], tagOfCode c = none := by decide
    exact fun c hc v => selectRx_of_unrecognized (hnone c hc) v

/-- Settles O17: the five words, evaluated. -/
theorem vectorWordsDecode : Obligations.VectorWordsDecode := by
  refine ⟨?_, ?_, ?_, ?_, rfl⟩ <;> decide +kernel

/-! ## Frames as encodings -/

/-- R90, R92 and R151: the bytes that decode to a frame are the four of its encoding. -/
theorem decodeFrame_eq_ok {tbl : Vector Byte 256} {bs : List Byte} {f : Frame} :
    decodeFrame tbl bs = .ok f ↔ bs = (frameEncode tbl f.code f.payload).bytes := by
  constructor
  · intro h
    unfold decodeFrame at h
    split at h
    · next b0 b1 b2 b3 =>
      split at h
      · next g hg =>
        cases h
        exact congrArg Quad.bytes ((frameDecodeInvertsEncode tbl ⟨b0, b1, b2, b3⟩ f).mp hg)
      · cases h
    · cases h
  · rintro rfl
    exact decodeFrame_of_frameDecode (frameDecode_frameEncode tbl f.code f.payload)

/-- R91 and R96: what bytes offered to the device decode to. -/
theorem decodeTx_eq_ok {tbl : Vector Byte 256} {bs : List Byte} {i : Instr} (h : decodeTx tbl bs = .ok i) :
    ∃ k v, i = txInstr k v ∧ bs = (frameEncode tbl (txCode k) v).bytes := by
  unfold decodeTx at h
  split at h
  · next f hf =>
    split at h
    · next k hk =>
      cases h
      exact ⟨k, f.payload, rfl, kindOfCode_eq_some.mp hk ▸ decodeFrame_eq_ok.mp hf⟩
    · cases h
  · cases h

/-- R91 and R98: what received bytes decode to. -/
theorem decodeRx_eq_ok {tbl : Vector Byte 256} {bs : List Byte} {i : Instr} (h : decodeRx tbl bs = .ok i) :
    ∃ c v, i = selectRx c v ∧ bs = (frameEncode tbl c v).bytes := by
  unfold decodeRx at h
  split at h
  · next f hf =>
    cases h
    exact ⟨f.code, f.payload, rfl, decodeFrame_eq_ok.mp hf⟩
  · cases h

theorem encode_txInstr (tbl : Vector Byte 256) (k : TxKind) (v : U16) :
    encode tbl (txInstr k v) = encodeWire tbl .outbound (txCode k) v := by
  cases k <;> rfl

theorem encode_rxInstr (tbl : Vector Byte 256) (t : Tag) (v : U16) :
    encode tbl (rxInstr t v) = encodeWire tbl .inbound (rxCode t) v := by
  cases t <;> rfl

theorem wellFormed_txInstr (k : TxKind) (v : U16) : (txInstr k v).wellFormed = true := by
  cases k <;> rfl

theorem wellFormed_rxInstr (t : Tag) (v : U16) : (rxInstr t v).wellFormed = true := by
  cases t <;> rfl

/-- R91 and R98: the operation a code selects is encoded with that code, and is well formed: it is the default row only
when no other row has the code. -/
theorem encode_selectRx (tbl : Vector Byte 256) (c : Byte) (v : U16) :
    (selectRx c v).wellFormed = true ∧ encode tbl (selectRx c v) = encodeWire tbl .inbound c v := by
  cases htag : tagOfCode c with
  | none =>
    rw [selectRx_of_unrecognized htag]
    exact ⟨Option.isNone_iff_eq_none.mpr htag, rfl⟩
  | some t =>
    obtain rfl := tagOfCode_eq_some.mp htag
    rw [selectRx_rxCode]
    exact ⟨wellFormed_rxInstr t v, encode_rxInstr tbl t v⟩

/-- R91: every encoding of an inbound operation decodes to what its code selects. -/
theorem decode_encodeWire_inbound (tbl : Vector Byte 256) (c : Byte) (v : U16) :
    decode tbl (encodeWire tbl .inbound c v) = .ok (selectRx c v) :=
  decode_inbound_frameEncode tbl c v

/-! ## Requests as encodings -/

/-- R118: a request with the number of arguments of its selector, all of them numbers, decodes to what they select. -/
theorem decodeRequest_of_selectOp {o : BitVec 4} {qs : List ℚ} {i : Instr} (hcount : argumentCount o = some qs.length)
    (hselect : selectOp o qs = some i) : decodeRequest ⟨o, qs.map .rational⟩ = .ok i := by
  simp [decodeRequest, hcount, hselect]

/-- R118: the encoding of a decoded request is that request. -/
theorem encode_of_decodeRequest {r : Request} {i : Instr} (tbl : Vector Byte 256) (h : decodeRequest r = .ok i) :
    i.wellFormed = true ∧ encode tbl i = .request r := by
  obtain ⟨o, args⟩ := r
  obtain ⟨qs, hargs, hselect⟩ := decodeRequest_selects h
  obtain rfl : args = qs.map .rational := hargs
  rcases selectOp_cases hselect with ⟨rfl, rfl, rfl⟩ | ⟨rfl, rfl, rfl⟩ | ⟨value, rfl, rfl, rfl⟩ | ⟨rfl, rfl, rfl⟩ |
    ⟨config, rfl, rfl, rfl⟩ | ⟨rfl, rfl, rfl⟩ | ⟨rfl, rfl, rfl⟩ | ⟨rfl, rfl, rfl⟩ | ⟨rfl, rfl, rfl⟩ <;>
    exact ⟨rfl, rfl⟩

/-! ## Decoding inverts encoding -/

/-- A well-formed operation is decoded from its encoding: an outbound frame by its kind, an inbound one by its code, a
host operation by its selector and its arguments. -/
theorem decode_encode (tbl : Vector Byte 256) {i : Instr} (hwf : i.wellFormed = true) :
    decode tbl (encode tbl i) = .ok i := by
  cases i with
  | txCommand v => exact decode_outbound_frameEncode tbl .command v
  | txReset v => exact decode_outbound_frameEncode tbl .reset v
  | txMaxCurrent v => exact decode_outbound_frameEncode tbl .maxCurrent v
  | txMaxControllerTemp v => exact decode_outbound_frameEncode tbl .maxControllerTemp v
  | txMaxMotorTemp v => exact decode_outbound_frameEncode tbl .maxMotorTemp v
  | txRudderRange v => exact decode_outbound_frameEncode tbl .rudderRange v
  | txReprogram v => exact decode_outbound_frameEncode tbl .reprogram v
  | txDisengage v => exact decode_outbound_frameEncode tbl .disengage v
  | txMaxSlew v => exact decode_outbound_frameEncode tbl .maxSlew v
  | txCurrentCalibration v => exact decode_outbound_frameEncode tbl .currentCalibration v
  | txVoltageCalibration v => exact decode_outbound_frameEncode tbl .voltageCalibration v
  | rxCurrent v => exact decode_encodeWire_inbound tbl (rxCode .current) v
  | rxVoltage v => exact decode_encodeWire_inbound tbl (rxCode .voltage) v
  | rxControllerTemp v => exact decode_encodeWire_inbound tbl (rxCode .controllerTemp) v
  | rxMotorTemp v => exact decode_encodeWire_inbound tbl (rxCode .motorTemp) v
  | rxRudder v => exact decode_encodeWire_inbound tbl (rxCode .rudder) v
  | rxFlags v => exact decode_encodeWire_inbound tbl (rxCode .flags) v
  | rxMaxCurrent v => exact decode_encodeWire_inbound tbl (rxCode .maxCurrent) v
  | rxMaxControllerTemp v => exact decode_encodeWire_inbound tbl (rxCode .maxControllerTemp) v
  | rxMaxMotorTemp v => exact decode_encodeWire_inbound tbl (rxCode .maxMotorTemp) v
  | rxRudderRange v => exact decode_encodeWire_inbound tbl (rxCode .rudderRange) v
  | rxMaxSlew v => exact decode_encodeWire_inbound tbl (rxCode .maxSlew) v
  | rxCurrentCalibration v => exact decode_encodeWire_inbound tbl (rxCode .currentCalibration) v
  | rxVoltageCalibration v => exact decode_encodeWire_inbound tbl (rxCode .voltageCalibration) v
  | rxUnrecognized c v =>
    have hcode : tagOfCode c = none := Option.isNone_iff_eq_none.mp hwf
    exact (decode_encodeWire_inbound tbl c v).trans (congrArg Except.ok (selectRx_of_unrecognized hcode v))
  | opCommand value => exact decodeRequest_of_selectOp (o := 2) (qs := [value]) rfl rfl
  | opSetConfiguration config => exact decodeRequest_of_selectOp (o := 4) (qs := configArgs config) rfl rfl
  | opInitialize | opInitStep | opPoll | opFault | opReset | opDisengage | opReprogram => rfl

/-- What decodes to an operation is its encoding, by the three sources of an encoding. -/
theorem encode_of_decode {tbl : Vector Byte 256} {e : Encoding} {i : Instr} (h : decode tbl e = .ok i) :
    i.wellFormed = true ∧ encode tbl i = e := by
  cases e with
  | wire direction bytes =>
    cases direction with
    | outbound =>
      obtain ⟨k, v, rfl, rfl⟩ := decodeTx_eq_ok h
      exact ⟨wellFormed_txInstr k v, encode_txInstr tbl k v⟩
    | inbound =>
      obtain ⟨c, v, rfl, rfl⟩ := decodeRx_eq_ok h
      exact encode_selectRx tbl c v
  | request r => exact encode_of_decodeRequest tbl h

/-- Settles O16: the two directions. -/
theorem decodeAnswersExactlyTheEncodedOperation : Obligations.DecodeAnswersExactlyTheEncodedOperation := by
  intro tbl e i
  constructor
  · intro hdecode
    obtain ⟨hwf, hencode⟩ := encode_of_decode hdecode
    exact ⟨hwf, hencode.symm⟩
  · rintro ⟨hwf, rfl⟩
    exact decode_encode tbl hwf

end Sys2Proof.Machine
end

section
/-! The default CRC table (spec 40_crc8.md sections 3 and 4; log 2, no fact about the device): it is the bit-serial
rule, linear, and a permutation, so a changed byte changes the CRC. -/

namespace Sys2Proof.Machine

/-! ## The bit-serial rule -/

/-- R134: one turn is linear, for the bit that is shifted out decides the polynomial and is linear itself. -/
theorem crc8BitTurn_xor (a b : Byte) : crc8BitTurn (a ^^^ b) = crc8BitTurn a ^^^ crc8BitTurn b := by
  unfold crc8BitTurn
  rw [BitVec.msb_xor, BitVec.shiftLeft_xor_distrib]
  cases a.msb <;> cases b.msb
  case false.false => rfl
  case false.true => exact BitVec.xor_assoc ..
  case true.false =>
    have hswap : ∀ x y p : Byte, (x ^^^ y) ^^^ p = (x ^^^ p) ^^^ y := fun x y p => by ac_rfl
    exact hswap ..
  case true.true =>
    have hcancel : ∀ x y p : Byte, x ^^^ y = (x ^^^ p) ^^^ (y ^^^ p) := by
      intro x y p
      rw [BitVec.xor_comm y p, ← BitVec.xor_assoc, BitVec.xor_assoc x p p, BitVec.xor_self, BitVec.xor_zero]
    exact hcancel ..

theorem repeat_crc8BitTurn_xor (n : Nat) (a b : Byte) :
    Nat.repeat crc8BitTurn n (a ^^^ b) = Nat.repeat crc8BitTurn n a ^^^ Nat.repeat crc8BitTurn n b := by
  induction n with
  | zero => rfl
  | succ n ih =>
    rw [Nat.repeat, ih, crc8BitTurn_xor]
    rfl

/-! ## The table -/

/-- R133 and R134: the 256 entries, evaluated. -/
theorem crc8Entry_default : ∀ i : Byte, crc8Entry crc8DefaultTable i = crc8TableEntry i := by
  decide +kernel

theorem crc8Entry_default_xor (a b : Byte) : crc8Entry crc8DefaultTable (a ^^^ b)
    = crc8Entry crc8DefaultTable a ^^^ crc8Entry crc8DefaultTable b := by
  simp only [crc8Entry_default]
  exact repeat_crc8BitTurn_xor 8 a b

/-- Only the byte 0 has the entry 0. -/
theorem crc8Entry_default_eq_zero : ∀ i : Byte, crc8Entry crc8DefaultTable i = 0 → i = 0 := by
  decide +kernel

/-- A linear map with a trivial kernel takes no value twice. -/
theorem crc8Entry_default_injective : Function.Injective (crc8Entry crc8DefaultTable) := by
  intro a b h
  have hzero : crc8Entry crc8DefaultTable (a ^^^ b) = 0 := by
    rw [crc8Entry_default_xor, h, BitVec.xor_self]
    rfl
  exact BitVec.xor_eq_zero_iff.mp (crc8Entry_default_eq_zero _ hzero)

/-- Settles O14: an injection of the bytes into themselves is a permutation. -/
theorem defaultTableIsBitSerialLinearPermutation : Obligations.DefaultTableIsBitSerialLinearPermutation := by
  refine ⟨crc8Entry_default, fun v => ?permutation, crc8Entry_default_xor⟩
  case permutation =>
    obtain ⟨i, hi⟩ := Finite.surjective_of_injective crc8Entry_default_injective v
    exact ⟨i, hi, fun j hj => crc8Entry_default_injective (hj.trans hi.symm)⟩

/-! ## Changed bits -/

/-- R132: the CRC of three bytes, one byte at a time. -/
theorem crc8Block_three (tbl : Vector Byte 256) (a b c : Byte) :
    crc8Block tbl [a, b, c] = crc8Byte tbl (crc8Byte tbl (crc8Byte tbl 0xFF a) b) c := rfl

/-- Under a table that takes no value twice, one byte of CRC determines either operand from the other. -/
theorem crc8Byte_left_inj {tbl : Vector Byte 256} (hinj : Function.Injective (crc8Entry tbl)) {c d b : Byte} :
    crc8Byte tbl c b = crc8Byte tbl d b ↔ c = d :=
  hinj.eq_iff.trans (BitVec.xor_left_inj b)

theorem crc8Byte_right_inj {tbl : Vector Byte 256} (hinj : Function.Injective (crc8Entry tbl)) {c a b : Byte} :
    crc8Byte tbl c a = crc8Byte tbl c b ↔ a = b :=
  hinj.eq_iff.trans (BitVec.xor_right_inj c)

/-- Exactly one byte of a quad is not 0. -/
def Quad.OneByte (e : Quad) : Prop :=
  (e.b0 ≠ 0#8 ∧ e.b1 = 0#8 ∧ e.b2 = 0#8 ∧ e.b3 = 0#8) ∨ (e.b0 = 0#8 ∧ e.b1 ≠ 0#8 ∧ e.b2 = 0#8 ∧ e.b3 = 0#8) ∨
  (e.b0 = 0#8 ∧ e.b1 = 0#8 ∧ e.b2 ≠ 0#8 ∧ e.b3 = 0#8) ∨ (e.b0 = 0#8 ∧ e.b1 = 0#8 ∧ e.b2 = 0#8 ∧ e.b3 ≠ 0#8)

/-- The exclusive or of two quads, byte by byte. -/
def Quad.xor (q e : Quad) : Quad := ⟨q.b0 ^^^ e.b0, q.b1 ^^^ e.b1, q.b2 ^^^ e.b2, q.b3 ^^^ e.b3⟩

/-- R91: changing bits of a frame word changes the bits of its bytes. -/
theorem quadOfWord_frameWord_xor (q : Quad) (w : FrameWord) :
    quadOfWord (frameWord q ^^^ w) = q.xor (quadOfWord w) := by
  have hsplit : quadOfWord (frameWord q ^^^ w) = (quadOfWord (frameWord q)).xor (quadOfWord w) := by
    simp only [quadOfWord, Quad.xor, BitVec.extractLsb'_xor]
  rw [hsplit, quadOfWord_frameWord]

theorem oneByte_quadOfWord_bit : ∀ k < 32, (quadOfWord (1#32 <<< k)).OneByte := by
  unfold Quad.OneByte
  decide +kernel

theorem eq_zero_of_xor_eq_self {a e : Byte} (h : a ^^^ e = a) : e = 0#8 := by
  have hzero : a ^^^ e = a ^^^ 0#8 := h.trans BitVec.xor_zero.symm
  exact (BitVec.xor_right_inj a).mp hzero

/-- Under such a table, a valid frame with one byte changed is not valid: its CRC would be the same on one side and
another on the other. -/
theorem not_valid_xor_oneByte {tbl : Vector Byte 256} (hinj : Function.Injective (crc8Entry tbl)) {q e : Quad}
    (hvalid : validFrame tbl q = true) (he : e.OneByte) : validFrame tbl (q.xor e) = false := by
  rw [Bool.eq_false_iff, Ne, validFrame_iff, Quad.xor]
  intro hchanged
  have hcrc := validFrame_iff.mp hvalid
  simp only [crc8Block_three] at hcrc hchanged
  obtain ⟨hne, h1, h2, h3⟩ | ⟨h0, hne, h2, h3⟩ | ⟨h0, h1, hne, h3⟩ | ⟨h0, h1, h2, hne⟩ := he
  · rw [h1, h2, h3, BitVec.xor_zero, BitVec.xor_zero, BitVec.xor_zero, hcrc, crc8Byte_left_inj hinj,
      crc8Byte_left_inj hinj, crc8Byte_right_inj hinj] at hchanged
    exact hne (eq_zero_of_xor_eq_self hchanged.symm)
  · rw [h0, h2, h3, BitVec.xor_zero, BitVec.xor_zero, BitVec.xor_zero, hcrc, crc8Byte_left_inj hinj,
      crc8Byte_right_inj hinj] at hchanged
    exact hne (eq_zero_of_xor_eq_self hchanged.symm)
  · rw [h0, h1, h3, BitVec.xor_zero, BitVec.xor_zero, BitVec.xor_zero, hcrc, crc8Byte_right_inj hinj] at hchanged
    exact hne (eq_zero_of_xor_eq_self hchanged.symm)
  · rw [h0, h1, h2, BitVec.xor_zero, BitVec.xor_zero, BitVec.xor_zero, ← hcrc] at hchanged
    exact hne (eq_zero_of_xor_eq_self hchanged)

/-- Settles O15: one bit lies in one byte. -/
theorem defaultTableRejectsEverySingleBitFlip : Obligations.DefaultTableRejectsEverySingleBitFlip := by
  intro q k hvalid hk
  rw [quadOfWord_frameWord_xor]
  exact not_valid_xor_oneByte crc8Entry_default_injective hvalid (oneByte_quadOfWord_bit k hk)

end Sys2Proof.Machine
end

section
/-! The Telemetry Decoder (spec 43_telemetry_decoder.md): what it does with a code of the table, the rows of the flags
and the limits, and the poll that runs one received frame. -/

namespace Sys2Proof.Machine

open Sys2Proof.Claims

/-! ## The decoder by the tag of the code -/

/-- The events of a frame by its tag: only a flags frame may raise the one warning (R206). -/
def eventsOfTag (p : Params) (v : U16) : Tag → Events
  | .flags => if invalidPacketFlag p v then .onlyInvalidPacket else .none
  | _ => .none

/-- R200: a recognised frame is stored in the register of its tag and returns that tag. -/
theorem telemDecode_of_tag {c : Byte} {t : Tag} (h : tagOfCode c = some t) (p : Params) (v : U16) (d : DeviceStatus) :
    telemDecode p c v d = ⟨d.set t v, ⟨tagBit t, eventsOfTag p v t⟩⟩ := by
  cases t <;> simp only [telemDecode, h] <;> rfl

/-- R26 and R206: the warning, with the test of the mask written out. -/
theorem eventsOfTag_flags (p : Params) (v : U16) :
    eventsOfTag p v .flags = ⟨false, false, false, decide (v &&& p.invalidPacketMask ≠ 0)⟩ := by
  have htest : invalidPacketFlag p v = decide (v &&& p.invalidPacketMask ≠ 0) := by
    rw [invalidPacketFlag, Bool.eq_iff_iff, bne_iff_ne, decide_eq_true_iff]
  rw [eventsOfTag, htest]
  cases decide (v &&& p.invalidPacketMask ≠ 0) <;> rfl

theorem eventsOfTag_of_ne_flags {t : Tag} (ht : t ≠ .flags) (p : Params) (v : U16) : eventsOfTag p v t = .none := by
  cases t with
  | flags => exact absurd rfl ht
  | _ => rfl

/-- R24: the set of one tag has that tag and no other. -/
theorem tagMember_tagBit (t u : Tag) : tagMember (tagBit t) u = decide (u = t) := by
  cases t <;> cases u <;> decide

/-- R24: the empty set has no tag. -/
theorem tagMember_zero (t : Tag) : tagMember 0 t = false :=
  BitVec.getLsbD_zero

/-- R97: the thirteen codes are distinct. -/
theorem rxCode_inj {t u : Tag} : rxCode u = rxCode t ↔ t = u := by
  rw [← tagOfCode_eq_some, tagOfCode_rxCode, Option.some.injEq, eq_comm]

/-- Settles O24: a code of the table belongs to one tag, any other to none. -/
theorem decoderWritesOnlyTheRegisterOfTheCode : Obligations.DecoderWritesOnlyTheRegisterOfTheCode := by
  intro p c v d
  cases htag : tagOfCode c with
  | none =>
    have hother : ∀ t, c ≠ rxCode t := by
      intro t ht
      rw [tagOfCode_eq_some.mpr ht] at htag
      cases htag
    have hnotFlags : ¬ (c = 0x8F ∧ v &&& p.invalidPacketMask ≠ 0) := fun h => hother .flags h.1
    rw [telemDecode_of_unrecognized htag, decide_eq_false hnotFlags]
    refine ⟨fun t => (if_neg (hother t)).symm, fun t => ?_, rfl⟩
    rw [decide_eq_false (hother t)]
    exact tagMember_zero t
  | some u =>
    obtain rfl := tagOfCode_eq_some.mp htag
    rw [telemDecode_of_tag htag]
    simp only [rxCode_inj]
    refine ⟨fun t => DeviceStatus.get_set d t u v, fun t => tagMember_tagBit u t, ?events⟩
    case events =>
      have hflags : rxCode u = 0x8F ↔ Tag.flags = u := rxCode_inj (t := .flags)
      by_cases hu : u = .flags
      · subst hu
        simp only [eventsOfTag_flags, hflags, true_and]
      · simp only [eventsOfTag_of_ne_flags hu, hflags, Ne.symm hu, false_and, decide_false]
        rfl

/-! ## The rows -/

/-- R91 and R200: the operation a code selects accepts what the decoder makes of that code. -/
theorem exec_selectRx (c : Byte) (v : U16) (s : State) :
    exec (selectRx c v) s = acceptFrame (telemDecode s.par c v s.ds) s := by
  cases htag : tagOfCode c with
  | none =>
    rw [selectRx_of_unrecognized htag, telemDecode_of_unrecognized htag]
    rfl
  | some t =>
    simp only [selectRx, telemDecode, htag]
    cases t <;> rfl

/-- Settles O20: the flags row is the code 0x8F, whose frame is stored under its tag. -/
theorem flagsFrameReplacesTheBitfield : Obligations.FlagsFrameReplacesTheBitfield := by
  intro v s
  have htag : tagOfCode 0x8F = some .flags := tagOfCode_rxCode .flags
  have hexec := exec_selectRx 0x8F v s
  rw [telemDecode_of_tag htag, eventsOfTag_flags] at hexec
  obtain ⟨s', hnext, hds, hresponse, hkeeps⟩ := acceptFrame_next
    ⟨s.ds.set .flags v, ⟨tagBit .flags, ⟨false, false, false, decide (v &&& s.par.invalidPacketMask ≠ 0)⟩⟩⟩ s
  have hothers : ∀ u, u ≠ Tag.flags → s'.ds.get u = s.ds.get u := by
    intro u hu
    rw [hds]
    exact s.ds.get_set_other v hu
  exact ⟨s', hexec.trans hnext, by rw [hds]; rfl, hothers, hresponse, hkeeps⟩

/-- Settles O21: each of the three is a stored tag, read in hundredths. -/
theorem limitEchoesAreStored : Obligations.LimitEchoesAreStored := by
  refine ⟨?maxCurrent, ?maxControllerTemp, ?maxMotorTemp⟩
  case maxCurrent => exact stores_rxInstr (t := .maxCurrent) (by decide) fun d => hundredths_eq d.maxCurrentRaw
  case maxControllerTemp =>
    exact stores_rxInstr (t := .maxControllerTemp) (by decide) fun d => hundredths_eq d.maxControllerTempRaw
  case maxMotorTemp => exact stores_rxInstr (t := .maxMotorTemp) (by decide) fun d => hundredths_eq d.maxMotorTempRaw

/-! ## A poll of one frame -/

/-- R173 and R174: in sync, a buffer that is exactly one valid frame is emptied by one turn, which decodes the frame. -/
theorem resyncDrain_one_frame {s : State} {q : Quad} (hbuf : s.rx.buf = q.bytes)
    (hvalid : validFrame s.par.crcTable q = true) (hcount : s.sync.inSyncCount ≠ 0) :
    resyncDrain s = ⟨(s.setRx ⟨[]⟩).setDs (telemDecode s.par q.b0 (cat16 q.b2 q.b1) s.ds).ds,
      (telemDecode s.par q.b0 (cat16 q.b2 q.b1) s.ds).report⟩ := by
  have hbuf' : s.rx.buf = q.bytes ++ [] := hbuf.trans (List.append_nil _).symm
  rw [resyncDrain_turn (rxWindow_eq_some.mpr ⟨[], hbuf'⟩), resyncTurn_of_valid_of_synced hbuf' hvalid hcount,
    resyncDrain_stop (s := (s.setRx ⟨[]⟩).setDs _) (Nat.zero_lt_succ 3), Report.union_empty]

/-- Settles O6: the read fits and does not fill the buffer, so the poll is the drain of the one frame. -/
theorem pollRunsTheReceivedFrame : Obligations.PollRunsTheReceivedFrame := by
  intro s rest code b1 b2 b3 i hcapacity hbuf hcount hreads hdecode
  obtain ⟨c, v, rfl, hbytes⟩ := decodeRx_eq_ok hdecode
  have hnext : nextRead s.env = .bytes code [b1, b2, b3] := by rw [nextRead, hreads]; rfl
  have hrx : nextRead s.env ≠ .error := by rw [hnext]; exact nofun
  have hread : rxBytes (nextRead s.env) = (frameEncode s.par.crcTable c v).bytes := by rw [hnext]; exact hbytes
  have hlength : (rxBytes (nextRead s.env)).length = 4 := by rw [hread]; rfl
  have hfits : ReadFits s := by
    rw [ReadFits, hlength, hbuf]
    exact Nat.le_of_succ_le hcapacity
  have hnotFull : (afterRead s).rx.buf.length + (rxBytes (nextRead s.env)).length ≠ (afterRead s).par.rxCapacity := by
    have hempty : (afterRead s).rx.buf.length = 0 := congrArg List.length hbuf
    have hpar : (afterRead s).par = s.par := rfl
    rw [hempty, hlength, hpar]
    omega
  have hstands : ((afterRead s).setRx ⟨(afterRead s).rx.buf ++ rxBytes (nextRead s.env)⟩).rx.buf
      = (frameEncode s.par.crcTable c v).bytes := by
    have hempty : (afterRead s).rx.buf = [] := hbuf
    rw [State.setRx_rx, hempty, hread, List.nil_append]
  have hsynced : s.sync.inSyncCount ≠ 0 := Nat.one_le_iff_ne_zero.mp hcount
  have hemptied : (afterRead s).setRx ⟨[]⟩ = afterRead s := by
    rw [← hbuf]
    rfl
  have hpayload : cat16 (frameEncode s.par.crcTable c v).b2 (frameEncode s.par.crcTable c v).b1 = v := cat16_hi8_lo8 v
  rw [exec_opPoll_of_readFits hfits, resyncRun_of_ordinary hrx hnotFull,
    resyncDrain_one_frame hstands (validFrame_frameEncode _ c v) hsynced, State.setRx_setRx, hemptied, hpayload,
    exec_selectRx]
  rfl

end Sys2Proof.Machine
end

section
/-! The Device Session (spec 45_device_session.md): the command payload, the stored configuration, and one cycle of
initialization. -/

namespace Sys2Proof.Machine

open Sys2Proof.Claims

/-! ## The payload of a command -/

/-- R94 and R291: the clamped value lies in the range of the field, so the payload is the floor of its scaled value. -/
theorem commandPayload_toNat (v : ℚ) :
    ((commandPayload v).toNat : ℤ) = ⌊(max (-1) (min v 1) + 1) * 1000⌋ := by
  obtain ⟨hlow, hhigh⟩ := clamp_between (x := v) (lo := -1) (hi := 1) (by norm_num)
  rw [commandPayload, u16Field_roundSilent_toNat (by linarith) (by linarith), clamp_eq_max_min (by norm_num)]

theorem commandPayload_mono {v w : ℚ} (h : v ≤ w) : (commandPayload v).toNat ≤ (commandPayload w).toNat := by
  have hclamped : max (-1) (min v 1) ≤ max (-1) (min w 1) := max_le_max_left _ (min_le_min_right _ h)
  have hfloor : ⌊(max (-1) (min v 1) + 1) * 1000⌋ ≤ ⌊(max (-1) (min w 1) + 1) * 1000⌋ :=
    Int.floor_mono (by linarith)
  rw [← commandPayload_toNat, ← commandPayload_toNat] at hfloor
  exact Int.ofNat_le.mp hfloor

/-- A value whose clamped and scaled form is a whole number is sent as that number. -/
theorem commandPayload_eq_ofNat {v : ℚ} {n : ℕ} (h : (max (-1) (min v 1) + 1) * 1000 = n) :
    (commandPayload v).toNat = n := by
  have hfloor := commandPayload_toNat v
  rw [h, Int.floor_natCast] at hfloor
  exact Int.ofNat.inj hfloor

theorem commandPayload_low {v : ℚ} (h : v ≤ -1) : commandPayload v = 0 := by
  have hclamped : max (-1) (min v 1) = -1 := max_eq_left (min_le_of_left_le h)
  exact BitVec.eq_of_toNat_eq (commandPayload_eq_ofNat (n := 0) (by rw [hclamped]; norm_num))

theorem commandPayload_high {v : ℚ} (h : 1 ≤ v) : commandPayload v = 2000 := by
  have hclamped : max (-1) (min v 1) = 1 := by rw [min_eq_right h]; norm_num
  exact BitVec.eq_of_toNat_eq (commandPayload_eq_ofNat (n := 2000) (by rw [hclamped]; norm_num))

/-- R96: a command payload is at most 2000, for it is monotone and 2000 at the upper end. -/
theorem commandPayload_le (v : ℚ) : (commandPayload v).toNat ≤ 2000 := by
  have hend : commandPayload (max v 1) = 2000 := commandPayload_high (le_max_right v 1)
  have hmono := commandPayload_mono (le_max_left v 1)
  rw [hend] at hmono
  exact hmono

/-- Settles O48. -/
theorem commandPayloadIsClampedLinearTruncated : Obligations.CommandPayloadIsClampedLinearTruncated := by
  refine ⟨fun v => ⟨commandPayload_toNat v, commandPayload_le v⟩, fun _ _ => commandPayload_mono,
    fun _ => commandPayload_low, fun _ => commandPayload_high, ?middle⟩
  case middle => exact BitVec.eq_of_toNat_eq (commandPayload_eq_ofNat (n := 1000) (by norm_num))

/-- Settles O47: a command is one tick and then its frame. -/
theorem commandTicksThenSendsItsFrame : Obligations.CommandTicksThenSendsItsFrame :=
  fun _ _ => ticksThenSends_of_exec_eq (k := .command) rfl

/-! ## The configuration -/

/-- R27: clamping puts every field into its range. -/
theorem clampConfig_inRange (a : ConfigValues) : ConfigInRange (clampConfig a) := by
  refine ⟨?_, ?_, ?_, ?_, ?_, ?_, ?_, ?_, ?_, ?_, ?_⟩ <;> exact clamp_between (by norm_num)

/-- R27: clamping keeps a configuration that is in range. -/
theorem clampConfig_of_inRange {a : ConfigValues} (h : ConfigInRange a) : clampConfig a = a := by
  obtain ⟨⟨h1, k1⟩, ⟨h2, k2⟩, ⟨h3, k3⟩, ⟨h4, k4⟩, ⟨h5, k5⟩, ⟨h6, k6⟩, ⟨h7, k7⟩, ⟨h8, k8⟩, ⟨h9, k9⟩, ⟨h10, k10⟩,
    ⟨h11, k11⟩⟩ := h
  rw [clampConfig, clamp_of_between h1 k1, clamp_of_between h2 k2, clamp_of_between h3 k3, clamp_of_between h4 k4,
    clamp_of_between h5 k5, clamp_of_between h6 k6, clamp_of_between h7 k7, clamp_of_between h8 k8,
    clamp_of_between h9 k9, clamp_of_between h10 k10, clamp_of_between h11 k11]

/-- Settles O49: the stored values are the clamped ones, each clamp a maximum and a minimum. -/
theorem setConfigurationStoresClampedFields : Obligations.SetConfigurationStoresClampedFields := by
  intro a s
  refine ⟨_, exec_opSetConfiguration a s, rfl, clampConfig_inRange a, clampConfig_of_inRange, ?_, ?_, ?_, ?_, ?_, ?_,
    ?_, ?_, ?_, ?_, ?_, rfl, rfl, rfl, rfl, rfl, rfl, rfl, rfl, rfl⟩ <;> exact clamp_eq_max_min (by norm_num)

/-! ## The state after a tick and a frame -/

/-- What a tick and a frame after it leave: what the tick leaves (R65, R231). -/
theorem tickThenSend_frame (k : TxKind) (v : U16) (s : State) :
    TickFrame s (sendFrame k v (schedStep s).state).state := by
  obtain ⟨hpar, hrx, hsync, hds, hcfg, hses, hreads, hport, hresponse⟩ := schedStep_frame s
  exact ⟨hpar, hrx, hsync, hds, hcfg, hses, hreads, hport, hresponse⟩

/-- `s` after the two writes of an initialization cycle (R262). -/
def afterOffers (s : State) : State := (sendFrame .command neutralPayload (schedStep s).state).state

theorem afterOffers_frame (s : State) : TickFrame s (afterOffers s) := tickThenSend_frame .command neutralPayload s

/-- The writes of a cycle do not touch what the read is answered with, nor the room it asks for. -/
theorem nextRead_afterOffers (s : State) : nextRead (afterOffers s).env = nextRead s.env := by
  rw [nextRead, (afterOffers_frame s).reads]
  rfl

theorem rxRoom_afterOffers (s : State) : rxRoom (afterOffers s) = rxRoom s := by
  rw [rxRoom, rxLen, (afterOffers_frame s).par, (afterOffers_frame s).rx]
  rfl

theorem readFits_afterOffers (s : State) : ReadFits (afterOffers s) ↔ ReadFits s := by
  have hroom : (afterOffers s).par.rxCapacity - (afterOffers s).rx.buf.length = s.par.rxCapacity - s.rx.buf.length :=
    rxRoom_afterOffers s
  rw [ReadFits, nextRead_afterOffers, hroom]
  rfl

/-! ## One cycle of initialization -/

/-- The run of the Resynchronizer in an initialization cycle (R262). -/
def cycleRun (s : State) : Resynced := resyncRun (nextRead s.env) (afterRead (afterOffers s))

/-- What an initialization cycle leaves (R262). -/
def afterCycle (s : State) : State :=
  finishCycle (schedStep s).answer (nextWrite (schedStep s).state.env) (nextRead s.env) (cycleRun s)

theorem rxRead_of_not_readFits {s : State} (h : ¬ ReadFits s) : rxRead s = .error .readBeyondRoom := by
  obtain ⟨hfits, _⟩ | ⟨_, hread⟩ := rxRead_cases s
  · exact absurd hfits h
  · exact hread

theorem exec_opInitStep_of_not_init {s : State} (h : s.ses.phase ≠ .init) :
    exec .opInitStep s = .refused .initStepOutsideInit := if_neg h

/-- R262: in phase INIT, with a read that keeps to the room, the cycle is done. -/
theorem exec_opInitStep_of_readFits {s : State} (hphase : s.ses.phase = .init) (hfits : ReadFits s) :
    exec .opInitStep s = .next (afterCycle s) := by
  have hread := rxRead_of_readFits ((readFits_afterOffers s).mpr hfits)
  rw [nextRead_afterOffers] at hread
  have hstep : exec .opInitStep s = execOpInitStep s := rfl
  have hwrites : (sendFrame .command neutralPayload (schedStep s).state).state = afterOffers s := rfl
  rw [hstep, execOpInitStep, if_pos hphase]
  simp only [hwrites, hread]
  rfl

/-- I10: in phase INIT, with a longer read, the cycle is refused. -/
theorem exec_opInitStep_of_not_readFits {s : State} (hphase : s.ses.phase = .init) (hfits : ¬ ReadFits s) :
    exec .opInitStep s = .refused .readBeyondRoom := by
  have hread := rxRead_of_not_readFits (mt (readFits_afterOffers s).mp hfits)
  have hstep : exec .opInitStep s = execOpInitStep s := rfl
  have hwrites : (sendFrame .command neutralPayload (schedStep s).state).state = afterOffers s := rfl
  rw [hstep, execOpInitStep, if_pos hphase]
  simp only [hwrites, hread]

/-- The ways an initialization step answers a next state. -/
theorem exec_opInitStep_next {s s' : State} (h : exec .opInitStep s = .next s') :
    s.ses.phase = .init ∧ ReadFits s ∧ s' = afterCycle s := by
  by_cases hphase : s.ses.phase = .init
  · by_cases hfits : ReadFits s
    · rw [exec_opInitStep_of_readFits hphase hfits] at h
      cases h
      exact ⟨hphase, hfits, rfl⟩
    · rw [exec_opInitStep_of_not_readFits hphase hfits] at h
      cases h
  · rw [exec_opInitStep_of_not_init hphase] at h
    cases h

/-- Settles O43. -/
theorem initStartWritesOnlySessionRegisters : Obligations.InitStartWritesOnlySessionRegisters := fun _ => rfl

/-- Settles O44. -/
theorem initStepIsRefusedOutsideInit : Obligations.InitStepIsRefusedOutsideInit :=
  fun _ => exec_opInitStep_of_not_init

/-- Settles O28: a poll reads at once, a cycle behind its two writes, which leave the room as it was. -/
theorem readBeyondRoomIsRefused : Obligations.ReadBeyondRoomIsRefused := by
  intro s hbeyond
  have hfits : ¬ ReadFits s := Nat.not_le.mpr hbeyond
  refine ⟨?poll, fun hphase => exec_opInitStep_of_not_readFits hphase hfits⟩
  case poll =>
    have hpoll : exec .opPoll s = execOpPoll s := rfl
    rw [hpoll, execOpPoll, rxRead_of_not_readFits hfits]

/-- The run of a cycle leaves what the tick of the cycle left, apart from the registers it writes itself, and behind the
two writes it has recorded and consumed one read. -/
structure CycleFrame (s t : State) : Prop where
  par : t.par = s.par
  outSync : t.sync.outSync = (s.sync.outSync + 1) % 23
  cfg : t.cfg = s.cfg
  ses : t.ses = s.ses
  env : t.env = ⟨s.env.reads.tail, (afterOffers s).env.writes⟩
  port : t.port = s.port
  hist : t.hist = (afterOffers s).hist ++ [.read (rxRoom s) (nextRead s.env)]

theorem cycleRun_frame (s : State) : CycleFrame s (cycleRun s).state := by
  have hrun := resyncRun_frame (nextRead s.env) (afterRead (afterOffers s))
  have hoffers := afterOffers_frame s
  have henv : (afterRead (afterOffers s)).env = ⟨s.env.reads.tail, (afterOffers s).env.writes⟩ := by
    rw [← hoffers.reads]
    rfl
  have hhist : (afterRead (afterOffers s)).hist = (afterOffers s).hist ++ [.read (rxRoom s) (nextRead s.env)] := by
    rw [← rxRoom_afterOffers, ← nextRead_afterOffers]
    rfl
  have hslot : (afterRead (afterOffers s)).sync.outSync = (s.sync.outSync + 1) % 23 :=
    congrArg SyncState.outSync hoffers.sync
  exact ⟨hrun.par.trans hoffers.par, hrun.outSync.trans hslot, hrun.cfg.trans hoffers.cfg, hrun.ses.trans hoffers.ses,
    hrun.env.trans henv, hrun.port.trans hoffers.port, hrun.hist.trans hhist⟩

/-- R262: the session registers after a cycle. -/
theorem afterCycle_ses (s : State) : (afterCycle s).ses
    = { countCycle (nextRead s.env) (cycleRun s).state.sync s.ses with
        phase := (initVerdict s.par (countCycle (nextRead s.env) (cycleRun s).state.sync s.ses)).1 } := by
  rw [← (cycleRun_frame s).ses, ← (cycleRun_frame s).par]
  rfl

/-- R262: the outcome of a cycle. -/
theorem afterCycle_response (s : State) : (afterCycle s).response = some
    ⟨(initVerdict s.par (countCycle (nextRead s.env) (cycleRun s).state.sync s.ses)).2, (cycleRun s).report.tags,
      initEvents (schedStep s).answer (nextWrite (schedStep s).state.env) (cycleRun s), none⟩ := by
  rw [← (cycleRun_frame s).ses, ← (cycleRun_frame s).par]
  rfl

/-- R14: the link errors of a cycle stand among its events, beside the warnings of its run, which names none itself. -/
theorem initEvents_eq (a1 a2 : WriteAnswer) {r : Resynced} (hr : r.report.events.NoLinkError) :
    initEvents a1 a2 r = ⟨decide (r.status = .ioReadError), decide (a1 = .error ∨ a2 = .error),
      r.report.events.overflow, r.report.events.invalidPacket⟩ := by
  obtain ⟨hread, hwrite⟩ := hr
  simp only [initEvents, writeStatus_error_iff]
  by_cases hstatus : r.status = .ioReadError <;> by_cases hanswer : a1 = .error ∨ a2 = .error <;>
    simp [Events.union, Events.onlyReadError, Events.onlyWriteError, Events.none, hread, hwrite, hstatus, hanswer]

/-- R170: the status of a run tells whether the read failed. -/
theorem resyncRun_status_eq_readError (rx : RxResult) (s : State) :
    (resyncRun rx s).status = .ioReadError ↔ rx = .error := by
  obtain ⟨hrx, hrun⟩ | ⟨hrx, _, hrun⟩ | ⟨hrx, _, hrun⟩ := resyncRun_cases rx s <;> rw [hrun] <;> simp [hrx]

/-- R262: some byte has been read once it was before or this read brings one. -/
theorem countCycle_initDataSeen (rx : RxResult) (y : SyncState) (e : Session) :
    (countCycle rx y e).initDataSeen = true ↔ e.initDataSeen = true ∨ rxBytes rx ≠ [] := by
  simp [countCycle]

theorem countCycle_initStreak (rx : RxResult) (y : SyncState) (e : Session) :
    (countCycle rx y e).initStreak = if 1 ≤ y.inSyncCount then min (e.initStreak + 1) 20 else 0 := by
  simp [countCycle, inSync, Config.initSustain]

/-- Settles O45: the run of the cycle with its frame, the counters, and the verdict on them. -/
theorem initStepIsOneCycleAndItsVerdict : Obligations.InitStepIsOneCycleAndItsVerdict := by
  rintro s w a2 r hphase hfits rfl hw hr
  have hafter : w = afterOffers s := by
    rw [hw, ← (schedStep_frame s).par]
    rfl
  obtain rfl : r = cycleRun s := by rw [hr, hafter]; rfl
  have hframe := cycleRun_frame s
  have hhist : (afterOffers s).hist = (schedStep s).state.hist
      ++ [.write (frameEncode s.par.crcTable 0xC7 1000) (nextWrite (schedStep s).state.env)] := by
    rw [← (schedStep_frame s).par]
    rfl
  have hses := afterCycle_ses s
  refine ⟨afterCycle s, exec_opInitStep_of_readFits hphase hfits, rfl, rfl, rfl, hframe.outSync, ?history, ?environment,
    hframe.par, hframe.cfg, hframe.port, ?cycles, ?dataSeen, ?streak, _, afterCycle_response s, rfl, rfl, ?outcome⟩
  case history => exact hframe.hist.trans (by rw [hhist, List.append_assoc]; rfl)
  case environment => exact hafter ▸ hframe.env
  case cycles => rw [hses]; rfl
  case dataSeen => rw [hses]; exact countCycle_initDataSeen (nextRead s.env) (cycleRun s).state.sync s.ses
  case streak => rw [hses]; exact countCycle_initStreak (nextRead s.env) (cycleRun s).state.sync s.ses
  case outcome =>
    have hnoLink : (cycleRun s).report.events.NoLinkError :=
      resyncRun_noLinkError (nextRead s.env) (afterRead (afterOffers s))
    have hread : (cycleRun s).status = .ioReadError ↔ nextRead s.env = .error :=
      resyncRun_status_eq_readError (nextRead s.env) (afterRead (afterOffers s))
    rw [initEvents_eq _ _ hnoLink, hses]
    refine ⟨rfl, decide_eq_decide.mpr hread, rfl, rfl, ?verdict⟩
    case verdict =>
      rw [← hphase]
      rfl

end Sys2Proof.Machine
end

section
/-! The host operations as transitions (spec 45_device_session.md with 20_memory.md section 7): which frames each
offers, with the answers, and everything that a request can do when it is run. -/

namespace Sys2Proof.Machine

open Sys2Proof.Claims

/-! ## Offers and their answers -/

/-- On the way from `s` to `t` exactly these frames have been offered, oldest first, each with its answer (R74), and as
many write answers consumed, from the front (R15). -/
def Offered (s t : State) (os : List (Quad × WriteAnswer)) : Prop :=
  (∃ es, t.hist = s.hist ++ es ∧ offers es = os) ∧ t.env.writes = s.env.writes.drop os.length

/-- What `Offered` says, in the terms of the statements. -/
theorem Offered.offers_newEvents {s t : State} {os : List (Quad × WriteAnswer)} (h : Offered s t os) :
    offers (newEvents s t) = os := by
  obtain ⟨⟨es, hhist, hoffers⟩, _⟩ := h
  rw [newEvents, hhist, List.drop_left, hoffers]

theorem Offered.refl (s : State) : Offered s s [] := ⟨⟨[], (List.append_nil s.hist).symm, rfl⟩, rfl⟩

theorem Offered.trans {s t u : State} {os ps : List (Quad × WriteAnswer)} (hst : Offered s t os)
    (htu : Offered t u ps) : Offered s u (os ++ ps) := by
  obtain ⟨⟨es, hes, rfl⟩, hwrites⟩ := hst
  obtain ⟨⟨fs, hfs, rfl⟩, hwrites'⟩ := htu
  refine ⟨⟨es ++ fs, by rw [hfs, hes, List.append_assoc], offers_append es fs⟩, ?_⟩
  rw [hwrites', hwrites, List.drop_drop, List.length_append]

/-- The offer of a frame, with the answer it is given. -/
def offerOf (k : TxKind) (v : U16) (s : State) : Quad × WriteAnswer :=
  (frameEncode s.par.crcTable (txCode k) v, nextWrite s.env)

/-- R65: a frame is offered once, and one answer is consumed. -/
theorem sendFrame_offered (k : TxKind) (v : U16) (s : State) : Offered s (sendFrame k v s).state [offerOf k v s] :=
  ⟨⟨[.write (frameEncode s.par.crcTable (txCode k) v) (nextWrite s.env)], rfl, rfl⟩, List.drop_one.symm⟩

/-- What a tick offers: with the guard set, the item of its slot, if there is one (R231, R239). -/
def tickOffers (s : State) : List (Quad × WriteAnswer) :=
  if s.cfg.paramsSet then
    (scheduledItem s.sync.outSync).toList.map fun k => offerOf k (ownPayload s.par s.cfg.values k) s
  else []

theorem tickOffers_of_no_item {s : State} (h : s.cfg.paramsSet = false ∨ scheduledItem s.sync.outSync = none) :
    tickOffers s = [] := by
  obtain hguard | hitem := h
  · rw [tickOffers, hguard]
    rfl
  · rw [tickOffers, hitem]
    exact ite_self _

theorem tickOffers_of_item {s : State} {k : TxKind} (hguard : s.cfg.paramsSet = true)
    (hitem : scheduledItem s.sync.outSync = some k) :
    tickOffers s = [offerOf k (ownPayload s.par s.cfg.values k) s] := by
  rw [tickOffers, hguard, hitem]
  rfl

/-- Every tick serves no item, or one. -/
theorem item_cases (s : State) : (s.cfg.paramsSet = false ∨ scheduledItem s.sync.outSync = none) ∨
    ∃ k, s.cfg.paramsSet = true ∧ scheduledItem s.sync.outSync = some k := by
  obtain ⟨hnone, _⟩ | ⟨k, hguard, hitem, _⟩ := schedStep_cases s
  · exact .inl hnone
  · exact .inr ⟨k, hguard, hitem⟩

theorem schedStep_offered (s : State) : Offered s (schedStep s).state (tickOffers s) := by
  obtain hnone | ⟨k, hguard, hitem⟩ := item_cases s
  · rw [schedStep_of_no_item hnone, tickOffers_of_no_item hnone]
    exact Offered.refl s
  · rw [schedStep_of_item hguard hitem, tickOffers_of_item hguard hitem]
    exact sendFrame_offered k (ownPayload s.par s.cfg.values k) s

theorem tickOffers_length_le (s : State) : (tickOffers s).length ≤ 1 := by
  obtain hnone | ⟨k, hguard, hitem⟩ := item_cases s
  · rw [tickOffers_of_no_item hnone]
    exact Nat.zero_le 1
  · rw [tickOffers_of_item hguard hitem]
    exact Nat.le_refl 1

/-- R231: the answer of a tick is `error` exactly when its offer was answered so. -/
theorem schedStep_answer_eq_error (s : State) :
    (schedStep s).answer = .error ↔ ∃ o ∈ tickOffers s, o.2 = .error := by
  obtain hnone | ⟨k, hguard, hitem⟩ := item_cases s
  · rw [schedStep_of_no_item hnone, tickOffers_of_no_item hnone]
    simp
  · rw [schedStep_of_item hguard hitem, tickOffers_of_item hguard hitem]
    simp [offerOf]

/-- What a tick and a frame after it offer. -/
def tickThenSendOffers (k : TxKind) (v : U16) (s : State) : List (Quad × WriteAnswer) :=
  tickOffers s ++ [offerOf k v (schedStep s).state]

theorem tickThenSend_offered (k : TxKind) (v : U16) (s : State) :
    Offered s (sendFrame k v (schedStep s).state).state (tickThenSendOffers k v s) :=
  (schedStep_offered s).trans (sendFrame_offered k v (schedStep s).state)

theorem tickThenSendOffers_length_le (k : TxKind) (v : U16) (s : State) : (tickThenSendOffers k v s).length ≤ 2 := by
  rw [tickThenSendOffers, List.length_append]
  exact Nat.succ_le_succ (tickOffers_length_le s)

/-- R302: the status of two writes is the error exactly when one of the offers was answered so. -/
theorem writeStatus_tickThenSend (k : TxKind) (v : U16) (s : State) :
    writeStatus (schedStep s).answer (nextWrite (schedStep s).state.env) = .ioWriteError ↔
      ∃ o ∈ tickThenSendOffers k v s, o.2 = .error := by
  rw [writeStatus_error_iff, schedStep_answer_eq_error]
  simp only [tickThenSendOffers, List.mem_append, List.mem_singleton, or_and_right, exists_or, exists_eq_left]
  rfl

theorem writeStatus_eq_ok {a b : WriteAnswer} (h : writeStatus a b ≠ .ioWriteError) : writeStatus a b = .ok :=
  if_neg (mt (writeStatus_error_iff a b).mpr h)

/-! ## Everything a request can do -/

/-- One frame by itself, with the outcome of its write: what `RESET` and `REPROGRAM` do (R285, R287). -/
def sendAlone (k : TxKind) (v : U16) (s : State) : State :=
  respondStatus (writeStatus (nextWrite s.env) .ok) (sendFrame k v s).state

/-- The ways a host operation answers a next state, one per operation (R261 to R287). -/
inductive HostRun (s : State) : Instr → State → Prop
  | start : HostRun s .opInitialize (respondStatus .ok (s.setSes .starting))
  | initStep (hphase : s.ses.phase = .init) (hfits : ReadFits s) : HostRun s .opInitStep (afterCycle s)
  | command (value : ℚ) : HostRun s (.opCommand value) (scheduleThenSend .command (commandPayload value) s)
  | poll (hfits : ReadFits s) : HostRun s .opPoll
      (respondReport (resyncRun (nextRead s.env) (afterRead s)).status (resyncRun (nextRead s.env) (afterRead s)).report
        (resyncRun (nextRead s.env) (afterRead s)).state)
  | setConfiguration (a : ConfigValues) :
      HostRun s (.opSetConfiguration a) (respondStatus .ok (s.setCfg ⟨clampConfig a, true⟩))
  | fault : HostRun s .opFault (respond ⟨.ok, 0, .none, some (overcurrent s.par s.ds.flags)⟩ s)
  | reset : HostRun s .opReset (sendAlone .reset s.par.resetPayload s)
  | disengage : HostRun s .opDisengage (scheduleThenSend .disengage s.par.disengagePayload s)
  | reprogram : HostRun s .opReprogram (sendAlone .reprogram s.par.reprogramPayload s)

/-- A decoded request that answers a next state has run in one of these ways. -/
theorem hostRun_of_exec {r : Request} {i : Instr} {s s' : State} (hdecode : decodeRequest r = .ok i)
    (h : exec i s = .next s') : HostRun s i s' := by
  obtain ⟨qs, _, hselect⟩ := decodeRequest_selects hdecode
  rcases selectOp_cases hselect with ⟨_, _, rfl⟩ | ⟨_, _, rfl⟩ | ⟨value, _, _, rfl⟩ | ⟨_, _, rfl⟩ | ⟨a, _, _, rfl⟩ |
    ⟨_, _, rfl⟩ | ⟨_, _, rfl⟩ | ⟨_, _, rfl⟩ | ⟨_, _, rfl⟩
  · cases h; exact .start
  · obtain ⟨hphase, hfits, rfl⟩ := exec_opInitStep_next h
    exact .initStep hphase hfits
  · cases h; exact .command value
  · obtain ⟨hfits, rfl⟩ := exec_opPoll_next h
    exact .poll hfits
  · cases h; exact .setConfiguration a
  · cases h; exact .fault
  · cases h; exact .reset
  · cases h; exact .disengage
  · cases h; exact .reprogram

/-- The state a request is run on: the call taken from the port and the beginning recorded (R60, R74). -/
def started (s : State) (rest : List Call) (i : Instr) : State := (s.setPort rest).setHist (s.hist ++ [.began i])

theorem started_offered (s : State) (rest : List Call) (i : Instr) : Offered s (started s rest i) [] :=
  ⟨⟨[.began i], rfl, rfl⟩, rfl⟩

/-- The ways a step answers a next state. -/
theorem step_next {s s' : State} (h : step s = .next s') :
    s' = s ∨ ∃ rest i, HostRun (started s rest i) i s' := by
  obtain ⟨_, ⟨_, hidle⟩ | ⟨r, rest, i, _, hdecode, hexec⟩⟩ := step_cases h
  · exact .inl hidle
  · exact .inr ⟨rest, i, hostRun_of_exec hdecode hexec⟩

/-- The frames a host operation offers (R262, R270, R285 to R287). -/
def hostOffers (s : State) : Instr → List (Quad × WriteAnswer)
  | .opInitStep => tickThenSendOffers .command neutralPayload s
  | .opCommand value => tickThenSendOffers .command (commandPayload value) s
  | .opReset => [offerOf .reset s.par.resetPayload s]
  | .opDisengage => tickThenSendOffers .disengage s.par.disengagePayload s
  | .opReprogram => [offerOf .reprogram s.par.reprogramPayload s]
  | _ => []

/-- A read and the run on its answer offer nothing. -/
theorem resyncRun_afterRead_offered (rx : RxResult) (s : State) : Offered s (resyncRun rx (afterRead s)).state [] := by
  have hrun := resyncRun_frame rx (afterRead s)
  exact ⟨⟨[.read (rxRoom s) (nextRead s.env)], hrun.hist, rfl⟩, (congrArg Environment.writes hrun.env).trans rfl⟩

theorem hostRun_offered {s s' : State} {i : Instr} (h : HostRun s i s') : Offered s s' (hostOffers s i) := by
  cases h with
  | start | setConfiguration | fault => exact Offered.refl s
  | initStep =>
    have hrun := (tickThenSend_offered .command neutralPayload s).trans
      (resyncRun_afterRead_offered (nextRead s.env) (afterOffers s))
    rw [List.append_nil] at hrun
    exact hrun
  | command value => exact tickThenSend_offered .command (commandPayload value) s
  | poll => exact resyncRun_afterRead_offered (nextRead s.env) s
  | reset => exact sendFrame_offered .reset s.par.resetPayload s
  | disengage => exact tickThenSend_offered .disengage s.par.disengagePayload s
  | reprogram => exact sendFrame_offered .reprogram s.par.reprogramPayload s

theorem hostOffers_length_le (s : State) (i : Instr) : (hostOffers s i).length ≤ 2 := by
  unfold hostOffers
  split
  case h_1 | h_2 | h_4 => exact tickThenSendOffers_length_le _ _ s
  case h_3 | h_5 => exact Nat.le_succ 1
  case h_6 => exact Nat.zero_le 2

/-! ## Write errors -/

/-- The outcome that `t` holds is `IO_WRITE_ERROR` exactly when one of these offers was answered `error`, and `OK`
otherwise (R302). -/
def ReportsWrites (t : State) (os : List (Quad × WriteAnswer)) : Prop :=
  ∃ o, t.response = some o ∧ (o.status = .ioWriteError ↔ ∃ w ∈ os, w.2 = .error) ∧
    (o.status ≠ .ioWriteError → o.status = .ok)

theorem scheduleThenSend_reportsWrites (k : TxKind) (v : U16) (s : State) :
    ReportsWrites (scheduleThenSend k v s) (tickThenSendOffers k v s) :=
  ⟨_, rfl, writeStatus_tickThenSend k v s, writeStatus_eq_ok⟩

theorem sendAlone_reportsWrites (k : TxKind) (v : U16) (s : State) :
    ReportsWrites (sendAlone k v s) [offerOf k v s] := by
  refine ⟨_, rfl, ?_, writeStatus_eq_ok⟩
  have hstatus : writeStatus (nextWrite s.env) .ok = .ioWriteError ↔ nextWrite s.env = .error := by simp
  exact hstatus.trans (by simp [offerOf])

/-- Settles O57: what each of the four offers, and the status of its writes. -/
theorem writeErrorIsReportedExactly : Obligations.WriteErrorIsReportedExactly := by
  intro i s s' hi h
  have hrun : HostRun s i s' := by
    obtain ⟨value, rfl⟩ | rfl | rfl | rfl := hi <;> cases h
    · exact .command value
    · exact .disengage
    · exact .reset
    · exact .reprogram
  rw [(hostRun_offered hrun).offers_newEvents]
  obtain ⟨value, rfl⟩ | rfl | rfl | rfl := hi <;> cases hrun
  · exact scheduleThenSend_reportsWrites .command (commandPayload value) s
  · exact scheduleThenSend_reportsWrites .disengage s.par.disengagePayload s
  · exact sendAlone_reportsWrites .reset s.par.resetPayload s
  · exact sendAlone_reportsWrites .reprogram s.par.reprogramPayload s

end Sys2Proof.Machine
end

section
/-! The step (spec 00_scope.md and 10_state.md): construction, what a step does with the port, the invariant, the write
columns of the access table, the history, and the frames that leave. -/

namespace Sys2Proof.Machine

open Sys2Proof.Claims

/-! ## Construction -/

/-- Settles O1: the constructed state, register by register. -/
theorem constructionLeavesTabledRegisters : Obligations.ConstructionLeavesTabledRegisters := by
  intro p
  refine ⟨_, rfl, rfl, rfl, rfl, rfl, fun t => ?statusRegisters, rfl, rfl, rfl, rfl, rfl⟩
  case statusRegisters => cases t <;> rfl

/-- R8: what the constraints on a parameter set say about the budgets of initialization. -/
theorem budgets_of_wf {p : Params} (h : p.wf = true) :
    1 ≤ p.initNoResponseBudget ∧ p.initNoResponseBudget < p.initSyncBudget ∧ 20 ≤ p.initSyncBudget := by
  simp only [Params.wf, Bool.and_eq_true, decide_eq_true_eq] at h
  obtain ⟨⟨⟨_, hnoResponse⟩, hless⟩, hsustain⟩ := h
  exact ⟨hnoResponse, hless, hsustain⟩

theorem defaultParams_wf : defaultParams.wf = true := by decide

/-- Every register of the constructed state is at the low end of its range, and the guard is clear. -/
theorem resetWith_inv {p : Params} (h : p.wf = true) : Inv (State.resetWith p) :=
  ⟨h, ⟨Nat.zero_le 3, Nat.zero_le 22, Nat.zero_le 1, nofun⟩, Nat.zero_le _, Nat.zero_le _, Nat.le_refl 0, nofun, nofun,
    nofun, nofun⟩

/-- Settles O2. -/
theorem constructionMeetsRegisterInvariant : Obligations.ConstructionMeetsRegisterInvariant :=
  ⟨fun _ => resetWith_inv, resetWith_inv defaultParams_wf⟩

/-! ## What a step does with the port -/

/-- R60 and R118: a request that decodes is run. -/
theorem step_of_request {s : State} {r : Request} {rest : List Call} {i : Instr} (hwf : s.par.wf = true)
    (hport : s.port = .request r :: rest) (hdecode : decodeRequest r = .ok i) : step s = exec i (started s rest i) := by
  simp only [step, fetch, hwf, hport, hdecode, if_true]
  rfl

/-- Settles O4. -/
theorem stepRunsStandingRequest : Obligations.StepRunsStandingRequest :=
  fun _ _ _ _ => step_of_request

/-- R309: no call, no change. -/
theorem step_of_empty_port {s : State} (hwf : s.par.wf = true) (hport : s.port = []) : step s = .next s := by
  simp only [step, fetch, hwf, hport, if_true]

/-- I11. -/
theorem step_of_overlapping {s : State} {a b : Request} {rest : List Call} (hwf : s.par.wf = true)
    (hport : s.port = .overlapping a b :: rest) : step s = .refused .overlappingOperations := by
  simp only [step, fetch, hwf, hport, if_true]

/-- I15. -/
theorem step_of_not_wf {s : State} (hwf : s.par.wf = false) : step s = .refused .parameterSetRefused := by
  simp only [step, fetch, hwf, Bool.false_eq_true, if_false]

/-- I13 and I14. -/
theorem step_of_undecodable {s : State} {r : Request} {rest : List Call} {e : DecodeError} (hwf : s.par.wf = true)
    (hport : s.port = .request r :: rest) (hdecode : decodeRequest r = .error e) :
    step s = .refused (.undecodable e) := by
  simp only [step, fetch, hwf, hport, hdecode, if_true]

/-- R99: a selector of 9 to 15 has no operation. -/
theorem argumentCount_of_nine_le {o : BitVec 4} (h : 9 ≤ o.toNat) : argumentCount o = none := by
  rw [argumentCount, if_neg (by omega), if_neg (by omega), if_neg (by omega)]

/-- R270: one argument that is not a number spoils them all. -/
theorem rationalArgs_of_notANumber_mem {as : List Arg} (h : .notANumber ∈ as) : rationalArgs as = none := by
  induction as with
  | nil => cases h
  | cons a as ih =>
    cases a with
    | notANumber => rfl
    | rational q =>
      have hrest : rationalArgs as = none := ih ((List.mem_cons.mp h).resolve_left nofun)
      rw [rationalArgs, hrest]
      rfl

/-- Settles O5: the three ways to stop before a request is looked at, and the three errors of the decoder. -/
theorem stepIdlesOrRefusesByName : Obligations.StepIdlesOrRefusesByName := by
  refine ⟨fun _ => step_of_empty_port, fun _ _ _ _ => step_of_overlapping, fun _ => step_of_not_wf,
    fun _ _ _ _ => step_of_undecodable, by decide, ?selector, ?count, ?argument⟩
  case selector =>
    intro o as ho
    simp only [decodeRequest, argumentCount_of_nine_le ho]
  case count =>
    intro o as n hcount hlength
    simp only [decodeRequest, hcount, if_neg hlength]
  case argument =>
    intro o as hcount hmem
    simp only [decodeRequest, hcount, if_true, rationalArgs_of_notANumber_mem hmem]

/-! ## The invariant -/

/-- R261: a started initialization is consistent, for the budgets are positive. -/
theorem starting_consistent {p : Params} (hwf : p.wf = true) : SessionConsistent p .starting := by
  obtain ⟨hnoResponse, hless, _⟩ := budgets_of_wf hwf
  have hinit : Session.starting.initStreak < Config.initSustain := by decide
  exact ⟨Nat.zero_le _, Nat.zero_le _, Nat.le_refl 0,
    fun _ => ⟨hinit, Nat.zero_lt_of_lt hless, fun _ => hnoResponse⟩, nofun, nofun, nofun⟩

/-- R262: a streak grows by at most one in a cycle, and never beyond 20. -/
theorem countCycle_initStreak_le (rx : RxResult) (y : SyncState) (e : Session) :
    (countCycle rx y e).initStreak ≤ 20 ∧ (countCycle rx y e).initStreak ≤ e.initStreak + 1 := by
  rw [countCycle_initStreak]
  split
  · exact ⟨min_le_right _ _, min_le_left _ _⟩
  · exact ⟨Nat.zero_le _, Nat.zero_le _⟩

/-- R262: after a cycle the counters are consistent with the verdict on them. -/
theorem countCycle_consistent {p : Params} {e : Session} (he : SessionConsistent p e) (hphase : e.phase = .init)
    (rx : RxResult) (y : SyncState) :
    SessionConsistent p { countCycle rx y e with phase := (initVerdict p (countCycle rx y e)).1 } := by
  obtain ⟨_, _, hstreak, hinit, _⟩ := he
  obtain ⟨_, hcycles, _⟩ := hinit hphase
  obtain ⟨hsustain, hgrows⟩ := countCycle_initStreak_le rx y e
  have hwithin : (countCycle rx y e).initStreak ≤ (countCycle rx y e).initCycles :=
    hgrows.trans (Nat.succ_le_succ hstreak)
  refine ⟨hcycles, hsustain, hwithin, ?_⟩
  obtain ⟨hready, hverdict⟩ | ⟨_, hseen, _, hverdict⟩ | ⟨_, _, hbudget, hverdict⟩ |
    ⟨hshort, hresponse, hbudget, hverdict⟩ := initVerdict_cases p (countCycle rx y e) <;>
    rw [hverdict]
  · exact ⟨nofun, fun _ => Nat.le_antisymm hsustain hready, nofun, nofun⟩
  · exact ⟨nofun, nofun, fun _ => hseen, nofun⟩
  · exact ⟨nofun, nofun, nofun, fun _ => Nat.le_antisymm hcycles hbudget⟩
  · have hstays : (countCycle rx y e).phase = .init := hphase
    rw [hstays]
    refine ⟨fun _ => ⟨hshort, hbudget, fun hseen => ?_⟩, nofun, nofun, nofun⟩
    exact Nat.lt_of_not_le fun hnoResponse => hresponse ⟨hseen, hnoResponse⟩

/-- R231: a tick keeps the invariant, for the counter moves modulo 23. -/
theorem inv_of_tickFrame {s t : State} (hinv : Inv s) (h : TickFrame s t) : Inv t := by
  obtain ⟨hwf, ⟨hrx, _, hcount, hcfg⟩, hses⟩ := hinv
  have hslot : (s.sync.outSync + 1) % 23 ≤ 22 := Nat.le_of_lt_succ (Nat.mod_lt _ (by decide))
  rw [Inv, RegistersInRange, h.par, h.rx, h.sync, h.cfg, h.ses]
  exact ⟨hwf, ⟨hrx, hslot, hcount, hcfg⟩, hses⟩

theorem inv_scheduleThenSend {s : State} (hinv : Inv s) (k : TxKind) (v : U16) : Inv (scheduleThenSend k v s) := by
  have hsent : Inv (sendFrame k v (schedStep s).state).state := inv_of_tickFrame hinv (tickThenSend_frame k v s)
  exact hsent

/-- R173: a read and the run on its answer keep the invariant. -/
theorem inv_resyncRun_afterRead {s : State} (hinv : Inv s) (rx : RxResult) :
    Inv (resyncRun rx (afterRead s)).state := by
  obtain ⟨hwf, ⟨hrx, hslot, hcount, hcfg⟩, hses⟩ := hinv
  have hrun := resyncRun_frame rx (afterRead s)
  have hrx' := resyncRun_length_le rx (s := afterRead s) hrx
  have hcount' := resyncRun_inSyncCount_le rx (s := afterRead s) hcount
  rw [Inv, RegistersInRange, hrun.par, hrun.outSync, hrun.cfg, hrun.ses]
  exact ⟨hwf, ⟨hrx', hslot, hcount', hcfg⟩, hses⟩

/-- R262: a cycle keeps the invariant: its tick, its run, and its counters with their verdict. -/
theorem inv_afterCycle {s : State} (hinv : Inv s) (hphase : s.ses.phase = .init) : Inv (afterCycle s) := by
  obtain ⟨hwf, hregisters, _⟩ := inv_resyncRun_afterRead (inv_of_tickFrame hinv (afterOffers_frame s)) (nextRead s.env)
  have hpar : (afterCycle s).par = s.par := (cycleRun_frame s).par
  obtain ⟨_, _, hses⟩ := hinv
  refine ⟨hwf, hregisters, ?_⟩
  rw [afterCycle_ses, hpar]
  exact countCycle_consistent hses hphase (nextRead s.env) (cycleRun s).state.sync

theorem hostRun_inv {s s' : State} {i : Instr} (hinv : Inv s) (h : HostRun s i s') : Inv s' := by
  cases h with
  | start =>
    obtain ⟨hwf, hregisters, _⟩ := hinv
    exact ⟨hwf, hregisters, starting_consistent hwf⟩
  | initStep hphase => exact inv_afterCycle hinv hphase
  | command value => exact inv_scheduleThenSend hinv .command (commandPayload value)
  | poll => exact inv_resyncRun_afterRead hinv (nextRead s.env)
  | setConfiguration a =>
    obtain ⟨hwf, ⟨hrx, hslot, hcount, _⟩, hses⟩ := hinv
    exact ⟨hwf, ⟨hrx, hslot, hcount, fun _ => clampConfig_inRange a⟩, hses⟩
  | disengage => exact inv_scheduleThenSend hinv .disengage s.par.disengagePayload
  | fault | reset | reprogram => exact hinv

/-- Taking a call and recording its beginning touches no register. -/
theorem started_inv {s : State} (hinv : Inv s) (rest : List Call) (i : Instr) : Inv (started s rest i) := hinv

/-- Settles O3: an idle step changes nothing, and every operation keeps the invariant. -/
theorem everyStepKeepsRegisterInvariant : Obligations.EveryStepKeepsRegisterInvariant := by
  intro s s' hinv hstep
  obtain rfl | ⟨rest, i, hrun⟩ := step_next hstep
  · exact hinv
  · exact hostRun_inv (started_inv hinv rest i) hrun

/-! ## The frames that leave -/

/-- The frame is the encoding of an outbound operation with a payload that R96 allows under the parameters `p`. -/
def Producible (p : Params) (f : Quad) : Prop :=
  ∃ k v, f = frameEncode p.crcTable (txCode k) v ∧ payloadProducible p k v = true

/-- The ranges of a configuration that has been set (R27, R28). -/
def ConfigSound (s : State) : Prop := s.cfg.paramsSet = true → ConfigInRange s.cfg.values

theorem tickOffers_producible {s : State} (hcfg : ConfigSound s) : ∀ o ∈ tickOffers s, Producible s.par o.1 := by
  obtain hnone | ⟨k, hguard, hitem⟩ := item_cases s
  · rw [tickOffers_of_no_item hnone]
    exact nofun
  · rw [tickOffers_of_item hguard hitem, List.forall_mem_singleton]
    exact ⟨k, _, rfl, ownPayload_producible (hcfg hguard) s.par k⟩

theorem tickThenSendOffers_producible {s : State} (hcfg : ConfigSound s) {k : TxKind} {v : U16}
    (hv : payloadProducible s.par k v = true) : ∀ o ∈ tickThenSendOffers k v s, Producible s.par o.1 := by
  rw [tickThenSendOffers, List.forall_mem_append, List.forall_mem_singleton]
  refine ⟨tickOffers_producible hcfg, k, v, ?_, hv⟩
  rw [offerOf, (schedStep_frame s).par]

/-- R96: the payloads of the five operations that send: the neutral command and a clamped one, and the fixed payloads of
the parameters. -/
theorem hostOffers_producible {s : State} (hcfg : ConfigSound s) (i : Instr) :
    ∀ o ∈ hostOffers s i, Producible s.par o.1 := by
  unfold hostOffers
  split
  · exact tickThenSendOffers_producible hcfg rfl
  · next value => exact tickThenSendOffers_producible hcfg (decide_eq_true (commandPayload_le value))
  · rw [List.forall_mem_singleton]
    exact ⟨.reset, _, rfl, beq_self_eq_true _⟩
  · exact tickThenSendOffers_producible hcfg (beq_self_eq_true _)
  · rw [List.forall_mem_singleton]
    exact ⟨.reprogram, _, rfl, beq_self_eq_true _⟩
  · exact nofun

/-- What a step offers: nothing when it is idle, else what its operation offers. -/
theorem step_offered {s s' : State} (h : step s = .next s') :
    ∃ os, Offered s s' os ∧ os.length ≤ 2 ∧ (ConfigSound s → ∀ o ∈ os, Producible s.par o.1) := by
  obtain rfl | ⟨rest, i, hrun⟩ := step_next h
  · exact ⟨[], Offered.refl _, Nat.zero_le 2, fun _ => nofun⟩
  · exact ⟨hostOffers (started s rest i) i, (started_offered s rest i).trans (hostRun_offered hrun),
      hostOffers_length_le _ i, fun hcfg => hostOffers_producible (s := started s rest i) hcfg i⟩

/-- Settles O56. -/
theorem everyOfferedFrameIsProducible : Obligations.EveryOfferedFrameIsProducible := by
  rintro s s' ⟨_, ⟨_, _, _, hcfg⟩, _⟩ hstep
  obtain ⟨os, hoffered, hlength, hproducible⟩ := step_offered hstep
  rw [hoffered.offers_newEvents]
  exact ⟨hlength, hproducible hcfg⟩

/-! ## The parameters and the read answers -/

/-- No host operation writes a parameter, and only the two that read consume a read answer (R32, R61). -/
theorem hostRun_par_reads {s s' : State} {i : Instr} (h : HostRun s i s') :
    s'.par = s.par ∧ ∃ n ≤ 1, s'.env.reads = s.env.reads.drop n := by
  cases h with
  | start | setConfiguration | fault | reset | reprogram => exact ⟨rfl, 0, Nat.zero_le 1, rfl⟩
  | initStep =>
    have hframe := cycleRun_frame s
    exact ⟨hframe.par, 1, Nat.le_refl 1, (congrArg Environment.reads hframe.env).trans List.drop_one.symm⟩
  | command value =>
    have hframe := tickThenSend_frame .command (commandPayload value) s
    exact ⟨hframe.par, 0, Nat.zero_le 1, hframe.reads⟩
  | poll =>
    have hframe := resyncRun_frame (nextRead s.env) (afterRead s)
    exact ⟨hframe.par, 1, Nat.le_refl 1, (congrArg Environment.reads hframe.env).trans List.drop_one.symm⟩
  | disengage =>
    have hframe := tickThenSend_frame .disengage s.par.disengagePayload s
    exact ⟨hframe.par, 0, Nat.zero_le 1, hframe.reads⟩

/-- Settles O55: the history and the write answers from the offers of the step. -/
theorem stepKeepsParametersAndExtendsHistory : Obligations.StepKeepsParametersAndExtendsHistory := by
  intro s s' hstep
  have hframe : s'.par = s.par ∧ ∃ n ≤ 1, s'.env.reads = s.env.reads.drop n := by
    obtain rfl | ⟨rest, i, hrun⟩ := step_next hstep
    · exact ⟨rfl, 0, Nat.zero_le 1, rfl⟩
    · have hkept := hostRun_par_reads hrun
      exact hkept
  obtain ⟨hpar, hreads⟩ := hframe
  obtain ⟨os, ⟨⟨es, hhist, _⟩, hwrites⟩, hlength, _⟩ := step_offered hstep
  exact ⟨hpar, ⟨es, hhist⟩, hreads, os.length, hlength, hwrites⟩

/-! ## The access table -/

/-- The operations that make a scheduler tick (R231). -/
def Ticks (i : Instr) : Prop := (∃ v, i = .opCommand v) ∨ i = .opDisengage ∨ i = .opInitStep

/-- The write columns of the access table (R34), for one operation. -/
def WritesAllowed (i : Instr) (s s' : State) : Prop :=
  (i ≠ .opPoll → i ≠ .opInitStep → s'.rx = s.rx ∧ s'.sync.inSyncCount = s.sync.inSyncCount ∧ s'.ds = s.ds) ∧
  (s'.sync.outSync = s.sync.outSync ∨ Ticks i ∧ s'.sync.outSync = (s.sync.outSync + 1) % 23) ∧
  (s'.cfg = s.cfg ∨ ∃ a, i = .opSetConfiguration a) ∧ (s'.ses = s.ses ∨ i = .opInitialize ∨ i = .opInitStep)

/-- A tick and a frame write the schedule alone. -/
theorem scheduleThenSend_writesAllowed {i : Instr} (hi : Ticks i) (k : TxKind) (v : U16) (s : State) :
    WritesAllowed i s (scheduleThenSend k v s) := by
  have hframe := tickThenSend_frame k v s
  have hsync : (scheduleThenSend k v s).sync = { s.sync with outSync := (s.sync.outSync + 1) % 23 } := hframe.sync
  rw [WritesAllowed, hsync]
  exact ⟨fun _ _ => ⟨hframe.rx, rfl, hframe.ds⟩, .inr ⟨hi, rfl⟩, .inl hframe.cfg, .inl hframe.ses⟩

theorem hostRun_writesAllowed {s s' : State} {i : Instr} (h : HostRun s i s') : WritesAllowed i s s' := by
  cases h with
  | start => exact ⟨fun _ _ => ⟨rfl, rfl, rfl⟩, .inl rfl, .inl rfl, .inr (.inl rfl)⟩
  | initStep =>
    have hframe := cycleRun_frame s
    exact ⟨fun _ hother => absurd rfl hother, .inr ⟨.inr (.inr rfl), hframe.outSync⟩, .inl hframe.cfg, .inr (.inr rfl)⟩
  | command value =>
    exact scheduleThenSend_writesAllowed (.inl ⟨value, rfl⟩) .command (commandPayload value) s
  | poll =>
    have hframe := resyncRun_frame (nextRead s.env) (afterRead s)
    exact ⟨fun hother => absurd rfl hother, .inl hframe.outSync, .inl hframe.cfg, .inl hframe.ses⟩
  | setConfiguration a => exact ⟨fun _ _ => ⟨rfl, rfl, rfl⟩, .inl rfl, .inr ⟨a, rfl⟩, .inl rfl⟩
  | disengage =>
    exact scheduleThenSend_writesAllowed (.inr (.inl rfl)) .disengage s.par.disengagePayload s
  | fault | reset | reprogram => exact ⟨fun _ _ => ⟨rfl, rfl, rfl⟩, .inl rfl, .inl rfl, .inl rfl⟩

/-- Settles O54: the operation of the step is the one its request decodes to. -/
theorem stepWritesOnlyWhatTheTableAllows : Obligations.StepWritesOnlyWhatTheTableAllows := by
  intro s s' r rest i hport hdecode hstep
  obtain ⟨hwf, _⟩ := step_cases hstep
  have hexec : exec i (started s rest i) = .next s' := (step_of_request hwf hport hdecode).symm.trans hstep
  have hallowed := hostRun_writesAllowed (hostRun_of_exec hdecode hexec)
  exact hallowed

end Sys2Proof.Machine
end

section
/-! The session registers in the other operations (spec 45_device_session.md section 5): nothing but the initialization
step reads them, so replacing them commutes with everything else. -/

namespace Sys2Proof.Machine

open Sys2Proof.Claims

/-! ## Replacing the session registers -/

theorem schedStep_setSes (s : State) (e : Session) :
    schedStep (s.setSes e) = ⟨(schedStep s).answer, (schedStep s).state.setSes e⟩ := by
  obtain hnone | ⟨k, hguard, hitem⟩ := item_cases s
  · rw [schedStep_of_no_item hnone, schedStep_of_no_item (s := s.setSes e) hnone]
    rfl
  · rw [schedStep_of_item hguard hitem, schedStep_of_item (s := s.setSes e) hguard hitem]
    rfl

theorem scheduleThenSend_setSes (k : TxKind) (v : U16) (s : State) (e : Session) :
    scheduleThenSend k v (s.setSes e) = (scheduleThenSend k v s).setSes e := by
  rw [scheduleThenSend, schedStep_setSes]
  rfl

theorem resyncTurn_setSes {q : Quad} {s : State} (hwindow : rxWindow s = some q) (e : Session) :
    resyncTurn q (s.setSes e) = ⟨(resyncTurn q s).state.setSes e, (resyncTurn q s).report⟩ := by
  obtain ⟨rest, hbuf⟩ := rxWindow_eq_some.mp hwindow
  have hbuf' : (s.setSes e).rx.buf = q.bytes ++ rest := hbuf
  by_cases hvalid : validFrame s.par.crcTable q = true
  · by_cases hcount : s.sync.inSyncCount = 0
    · rw [resyncTurn_of_valid_of_unsynced hbuf hvalid hcount, resyncTurn_of_valid_of_unsynced hbuf' hvalid hcount]
      rfl
    · rw [resyncTurn_of_valid_of_synced hbuf hvalid hcount, resyncTurn_of_valid_of_synced hbuf' hvalid hcount]
      rfl
  · rw [resyncTurn_of_not_valid hbuf hvalid, resyncTurn_of_not_valid hbuf' hvalid]
    rfl

theorem resyncDrain_setSes (s : State) (e : Session) :
    resyncDrain (s.setSes e) = ⟨(resyncDrain s).state.setSes e, (resyncDrain s).report⟩ := by
  induction s using resyncDrain_induction with
  | stop s hshort => rw [resyncDrain_stop hshort, resyncDrain_stop (s := s.setSes e) hshort]
  | turn s q hwindow ih =>
    rw [resyncDrain_turn hwindow, resyncDrain_turn (s := s.setSes e) hwindow, resyncTurn_setSes hwindow, ih]

theorem resyncRun_setSes (rx : RxResult) (s : State) (e : Session) :
    resyncRun rx (s.setSes e)
      = ⟨(resyncRun rx s).status, (resyncRun rx s).report, (resyncRun rx s).state.setSes e⟩ := by
  by_cases hrx : rx = .error
  · rw [hrx, resyncRun_error, resyncRun_error]
  · by_cases hlen : s.rx.buf.length + (rxBytes rx).length = s.par.rxCapacity
    · rw [resyncRun_of_full hrx hlen, resyncRun_of_full (s := s.setSes e) hrx hlen]
      rfl
    · rw [resyncRun_of_ordinary hrx hlen, resyncRun_of_ordinary (s := s.setSes e) hrx hlen]
      have hdrain := resyncDrain_setSes (s.setRx ⟨s.rx.buf ++ rxBytes rx⟩) e
      exact congrArg (fun d : Drained => Resynced.mk .ok d.report d.state) hdrain

/-- A poll that answers does so with any session registers. -/
theorem exec_opPoll_setSes {s s' : State} (h : exec .opPoll s = .next s') (e : Session) :
    exec .opPoll (s.setSes e) = .next (s'.setSes e) := by
  obtain ⟨hfits, rfl⟩ := exec_opPoll_next h
  have hread : afterRead (s.setSes e) = (afterRead s).setSes e := rfl
  have hnext : nextRead (s.setSes e).env = nextRead s.env := rfl
  rw [exec_opPoll_of_readFits (s := s.setSes e) hfits, hread, hnext, resyncRun_setSes]
  rfl

/-- Settles O53: the operations that only write, the poll, and the two that touch neither stream. -/
theorem sessionPhaseGatesNoOtherOperation : Obligations.SessionPhaseGatesNoOtherOperation := by
  rintro i s s' e (⟨value, rfl⟩ | rfl | ⟨a, rfl⟩ | rfl | rfl | rfl | rfl) h
  · -- `COMMAND`
    cases h
    exact congrArg Host.Outcome.next (scheduleThenSend_setSes .command (commandPayload value) s e)
  · -- `POLL`
    exact exec_opPoll_setSes h e
  · -- `SET_CONFIGURATION`
    cases h
    rfl
  · -- `FAULT`
    cases h
    rfl
  · -- `RESET`
    cases h
    rfl
  · -- `DISENGAGE`
    cases h
    exact congrArg Host.Outcome.next (scheduleThenSend_setSes .disengage s.par.disengagePayload s e)
  · -- `REPROGRAM`
    cases h
    rfl

end Sys2Proof.Machine
end

section
/-! The blocking initialization (spec 45_device_session.md section 2, R263): cycle after cycle uses up its budget, until
a verdict or a read that breaks its contract. -/

namespace Sys2Proof.Machine

open Sys2Proof.Claims

/-- An initialization under the parameters `p` is under way, with `fuel` cycles left in its budget. -/
structure InitRunning (p : Params) (fuel : Nat) (s : State) : Prop where
  par : s.par = p
  phase : s.ses.phase = .init
  cycles : s.ses.initCycles + fuel = p.initSyncBudget
  streak : s.ses.initStreak ≤ s.ses.initCycles

/-- R262: the status a cycle returns is that of its verdict. -/
theorem lastStatus_afterCycle (s : State) : lastStatus (afterCycle s)
    = some (initVerdict s.par (countCycle (nextRead s.env) (cycleRun s).state.sync s.ses)).2 := by
  rw [lastStatus, afterCycle_response]
  rfl

/-- R262: a cycle ends the initialization with a verdict, or goes on with one cycle less, and not beyond the last. -/
theorem afterCycle_ends_or_goes_on {p : Params} {fuel : Nat} {s : State} (h : InitRunning p (fuel + 1) s) :
    (lastStatus (afterCycle s) ≠ some .inProgress ∧ HasVerdict p (afterCycle s)) ∨
    (lastStatus (afterCycle s) = some .inProgress ∧ 0 < fuel ∧ InitRunning p fuel (afterCycle s)) := by
  obtain ⟨rfl, hphase, hcycles, hstreak⟩ := h
  have hses := afterCycle_ses s
  have hstatus := lastStatus_afterCycle s
  have hcount : (countCycle (nextRead s.env) (cycleRun s).state.sync s.ses).initCycles = s.ses.initCycles + 1 := rfl
  have hgrows := (countCycle_initStreak_le (nextRead s.env) (cycleRun s).state.sync s.ses).2
  have hstays : (countCycle (nextRead s.env) (cycleRun s).state.sync s.ses).phase = .init := hphase
  generalize countCycle (nextRead s.env) (cycleRun s).state.sync s.ses = e at *
  have hpositive : 1 ≤ e.initCycles := by omega
  have hbudget : e.initCycles ≤ s.par.initSyncBudget := by omega
  obtain ⟨hready, hverdict⟩ | ⟨_, hseen, _, hverdict⟩ | ⟨_, _, _, hverdict⟩ | ⟨_, _, hless, hverdict⟩ :=
    initVerdict_cases s.par e <;> rw [hverdict] at hses hstatus
  · refine .inl ⟨by rw [hstatus]; decide, ?_⟩
    rw [HasVerdict, hses]
    exact ⟨hpositive, hbudget, .inl ⟨rfl, hstatus, by simp only; omega⟩⟩
  · refine .inl ⟨by rw [hstatus]; decide, ?_⟩
    rw [HasVerdict, hses]
    exact ⟨hpositive, hbudget, .inr (.inl ⟨rfl, hstatus, hseen⟩)⟩
  · refine .inl ⟨by rw [hstatus]; decide, ?_⟩
    rw [HasVerdict, hses]
    exact ⟨hpositive, hbudget, .inr (.inr ⟨rfl, hstatus⟩)⟩
  · refine .inr ⟨hstatus, by omega, (cycleRun_frame s).par, ?_, ?_, ?_⟩ <;> rw [hses]
    · exact hstays
    · simp only
      omega
    · simp only
      omega

/-! ## Reads that fit -/

/-- At most three bytes are left over, and every answer still to come leaves room for them. -/
def LeavesRoom (s : State) : Prop :=
  s.rx.buf.length ≤ 3 ∧ ∀ rx ∈ s.env.reads, (rxBytes rx).length + 3 ≤ s.par.rxCapacity

theorem LeavesRoom.readFits {s : State} (h : LeavesRoom s) : ReadFits s := by
  obtain ⟨hleft, hreads⟩ := h
  rw [ReadFits, nextRead]
  cases hanswers : s.env.reads with
  | nil => exact Nat.zero_le _
  | cons rx rest =>
    have hroom := hreads rx (hanswers ▸ List.mem_cons_self)
    rw [List.headD_cons]
    omega

/-- A cycle leaves room again: its run leaves at most three bytes, and its read consumes an answer. -/
theorem LeavesRoom.afterCycle {s : State} (h : LeavesRoom s) : LeavesRoom (afterCycle s) := by
  obtain ⟨hleft, hreads⟩ := h
  have hbuf : (afterRead (afterOffers s)).rx.buf.length ≤ 3 := by
    have hrx : (afterRead (afterOffers s)).rx = s.rx := (afterOffers_frame s).rx
    rw [hrx]
    exact hleft
  have hpar : (Machine.afterCycle s).par = s.par := (cycleRun_frame s).par
  have henv : (Machine.afterCycle s).env.reads = s.env.reads.tail :=
    congrArg Environment.reads (cycleRun_frame s).env
  refine ⟨resyncRun_length_le (nextRead s.env) hbuf, ?_⟩
  rw [hpar, henv]
  exact fun rx hrx => hreads rx (List.mem_of_mem_tail hrx)

/-! ## The loop -/

/-- R263: a turn of the loop ends with a verdict, is refused for a read that did not fit, or goes on behind a cycle. -/
theorem initSteps_cases {p : Params} {fuel : Nat} {s : State} (h : InitRunning p (fuel + 1) s) :
    (∃ t, initSteps (fuel + 1) s = .next t ∧ HasVerdict p t) ∨
    (initSteps (fuel + 1) s = .refused .readBeyondRoom ∧ ¬ LeavesRoom s) ∨
    (0 < fuel ∧ InitRunning p fuel (afterCycle s) ∧ initSteps (fuel + 1) s = initSteps fuel (afterCycle s)) := by
  by_cases hfits : ReadFits s
  · have hexec := exec_opInitStep_of_readFits h.phase hfits
    obtain ⟨hstatus, hverdict⟩ | ⟨hstatus, hless, hrunning⟩ := afterCycle_ends_or_goes_on h
    · exact .inl ⟨afterCycle s, by simp only [initSteps, hexec, if_neg hstatus], hverdict⟩
    · exact .inr (.inr ⟨hless, hrunning, by simp only [initSteps, hexec, if_pos hstatus]⟩)
  · have hexec := exec_opInitStep_of_not_readFits h.phase hfits
    exact .inr (.inl ⟨by simp only [initSteps, hexec], fun hroom => hfits hroom.readFits⟩)

/-- R263: within the budget the loop ends with a verdict, or is refused for a read that did not fit. -/
theorem initSteps_ends {p : Params} {fuel : Nat} {s : State} (h : InitRunning p (fuel + 1) s) :
    (∃ t, initSteps (fuel + 1) s = .next t ∧ HasVerdict p t) ∨
    (initSteps (fuel + 1) s = .refused .readBeyondRoom ∧ ¬ LeavesRoom s) := by
  induction fuel generalizing s with
  | zero =>
    obtain hverdict | hrefused | ⟨hless, _⟩ := initSteps_cases h
    · exact .inl hverdict
    · exact .inr hrefused
    · exact absurd hless (Nat.lt_irrefl 0)
  | succ fuel ih =>
    obtain hverdict | hrefused | ⟨_, hrunning, hloop⟩ := initSteps_cases h
    · exact .inl hverdict
    · exact .inr hrefused
    · rw [hloop]
      exact (ih hrunning).imp_right fun ⟨hrefused, hroom⟩ => ⟨hrefused, mt LeavesRoom.afterCycle hroom⟩

/-- R261 and R263: the blocking form starts with its whole budget, which is at least 20 cycles. -/
theorem blockingInit_ends {s : State} (hwf : s.par.wf = true) :
    (∃ t, blockingInit s = .next t ∧ HasVerdict s.par t) ∨
    (blockingInit s = .refused .readBeyondRoom ∧ ¬ LeavesRoom s) := by
  obtain ⟨_, _, hbudget⟩ := budgets_of_wf hwf
  obtain ⟨fuel, hfuel⟩ : ∃ fuel, s.par.initSyncBudget = fuel + 1 := ⟨s.par.initSyncBudget - 1, by omega⟩
  have hblocking : blockingInit s = initSteps s.par.initSyncBudget (respondStatus .ok (s.setSes .starting)) := rfl
  rw [hblocking, hfuel]
  exact initSteps_ends ⟨rfl, rfl, (Nat.zero_add _).trans hfuel.symm, Nat.le_refl 0⟩

/-- Settles O46: with no condition on the reads, and with reads that leave room. -/
theorem blockingInitEndsWithinItsBudget : Obligations.BlockingInitEndsWithinItsBudget := by
  constructor
  · intro s hwf
    exact (blockingInit_ends hwf).symm.imp_left And.left
  · intro s hwf hleft hreads
    exact (blockingInit_ends hwf).resolve_right fun ⟨_, hroom⟩ => hroom ⟨hleft, hreads⟩

end Sys2Proof.Machine
end
